-- ==== Sys2Proof/Word.lean ====
section
/-!
DEFINITION. The word types of the gateway: a word is 16 bits and a byte 8 (00_scope, conventions: byte order).
-/

namespace Sys2Proof

/-- A 16-bit word: slot offsets, data words, register values, configuration items. -/
abbrev Word := BitVec 16

/-- One byte of slot space. -/
abbrev Byte := BitVec 8

end Sys2Proof
end

