-- ==== Sys2Proof/Syntax.lean ====
section
/-!
DEFINITION. The commands the gateway takes: one constructor for each row of spec/opcode_table.json.

The first thirteen are the requests of a host at its port (R167); each carries the host that presents it and the
parts of the request that its row leaves open. The rest are events at the part's pins and inside it: attention
lines, ticks and timer expiries, the transfer arbiter's selection, the phases of a beat on the P-bus, placement
passes, and the two kinds of reset.
-/

namespace Sys2Proof

/-- The hosts H0 to H3 and their ports (00_scope, conventions). -/
abbrev HostId := Fin 4

/-- The slots S0 to S7. -/
abbrev SlotId := Fin 8

/-- The attention sources A0 to A7; source An belongs to slot Sn. -/
abbrev SourceId := Fin 8

/-- The read-ahead line entries 0 to 7 (R67). -/
abbrev EntryId := Fin 8

/-- The width of a request or a record: BYTE or WORD (R1, R167). -/
inductive Width
  | byte
  | word
  deriving DecidableEq, Repr

/-- One command for each row of spec/opcode_table.json; each docstring names the row and its rule. -/
inductive Instr
  /-- SLOT_READ (R10): host `h` reads `width` at `offset` of `slot`. -/
  | slotRead (h : HostId) (slot : SlotId) (offset : Word) (width : Width)
  /-- SLOT_WRITE (R8): host `h` writes `data` at `offset` of `slot`. -/
  | slotWrite (h : HostId) (slot : SlotId) (offset : Word) (width : Width) (data : Word)
  /-- UNMAPPED_REQUEST (R168): host `h` puts a raw request word (R174) on its link; `data` is the data word of a
  write. Well formed when the word's address is unmapped or its reserved bits are set. -/
  | unmappedRequest (h : HostId) (word : BitVec 24) (data : Word)
  /-- PORT_STATUS (R171): host `h` reads the control window at `offset`. Offset 00h is the PORT_STATUS read. The
  table has no row for the reads of the registers that only report (02h, the notice head, THRESHOLD, CFG_INDEX,
  CFG_DATA, CFG_EXPECT, CFG_GEN) nor for a control read that fails decode: they are the other forms of this
  command (assumption 2). -/
  | portStatus (h : HostId) (width : Width) (offset : BitVec 8)
  /-- NOTICE_POP (R121): host `h` writes NOTICE_POP. -/
  | noticePop (h : HostId) (value : Word)
  /-- THRESHOLD (R122): host `h` writes THRESHOLD. -/
  | threshold (h : HostId) (value : Word)
  /-- CANCEL_READS (R17): host `h` writes CANCEL_READS. -/
  | cancelReads (h : HostId) (value : Word)
  /-- CLAIM (R94): host `h` reads CLAIM_n. -/
  | claim (h : HostId) (n : SourceId)
  /-- RELEASE (R96): host `h` writes RELEASE. -/
  | release (h : HostId) (value : Word)
  /-- REARM (R101): host `h` writes REARM. -/
  | rearm (h : HostId) (value : Word)
  /-- CFG_DATA_WRITE (R132): host `h` writes CFG_DATA. -/
  | cfgDataWrite (h : HostId) (value : Word)
  /-- CFG_CDATA_WRITE (R133): host `h` writes CFG_CDATA. -/
  | cfgCdataWrite (h : HostId) (value : Word)
  /-- REGISTER_WRITE (R130): host `h` writes the control window at `offset`: CFG_INDEX, CFG_EXPECT, or a write
  that fails decode. -/
  | registerWrite (h : HostId) (width : Width) (offset : BitVec 8) (value : Word)
  /-- ATTENTION_LINE_ACTIVE (R93): the level of PATNn becomes active. -/
  | attentionLineActive (n : SourceId)
  /-- ATTENTION_LINE_INACTIVE (R93): the level of PATNn becomes inactive. -/
  | attentionLineInactive (n : SourceId)
  /-- TICK_EVENT (R150): the timebase completes a tick interval. -/
  | tickEvent
  /-- COLLECTION_TIMER_EXPIRY (R16): the collection timer of host `h`'s DONE read of this key expires. -/
  | collectionTimerExpiry (h : HostId) (slot : SlotId) (offset : Word) (width : Width)
  /-- LIFETIME_EXPIRY (R78): the lifetime timer of line entry `e` expires. -/
  | lifetimeExpiry (e : EntryId)
  /-- CLAIM_TIMEOUT (R100): the claim timer of source `n` expires. -/
  | claimTimeout (n : SourceId)
  /-- HOLD_TIMEOUT (R103): the hold timer of source `n` expires. -/
  | holdTimeout (n : SourceId)
  /-- SELECTION (R33): the transfer arbiter takes a selection. -/
  | selection
  /-- SETUP_END (R51, R53): the setup time of the beat ends; `pdcl` is the level of PDCL at that moment. -/
  | setupEnd (pdcl : Bool)
  /-- STROBE_PERIOD_END (R52): the strobe period of the beat ends; `prdy` is the level of PRDY at that moment and
  `lanes`, `ppar` are PD15 to PD0 and PPAR as driven on a read beat. -/
  | strobePeriodEnd (prdy : Bool) (lanes : Word) (ppar : Bool)
  /-- READY (R52): PRDY is given; `lanes` and `ppar` are PD15 to PD0 and PPAR as driven on a read beat. -/
  | ready (lanes : Word) (ppar : Bool)
  /-- DECLINE (R53): PDCL is asserted. -/
  | decline
  /-- READY_LIMIT_EXPIRY (R52): the ready limit of the beat has passed. -/
  | readyLimitExpiry
  /-- RECOVERY_END (R56): the recovery of a beat ends that has a further beat behind it. -/
  | recoveryEnd
  /-- COMPLETION (R62): the recovery of an operation's last beat ends. -/
  | completion
  /-- PLACEMENT_PASS (R116): the notice unit takes a placement pass for host `h`. -/
  | placementPass (h : HostId)
  /-- PORT_RESET (R163): PRSTh is asserted. -/
  | portReset (h : HostId)
  /-- RETURN_TO_UP (R165): PRSTh is deasserted. -/
  | returnToUp (h : HostId)
  /-- GATEWAY_RESET (R173): GRST is asserted. -/
  | gatewayReset
  /-- GATEWAY_RESET_END (R161): GRST is deasserted. -/
  | gatewayResetEnd
  deriving DecidableEq, Repr

end Sys2Proof
end

