-- ==== Sys2Proof/WellFormed.lean ====
section
/-!
DEFINITION. When a command is a term of its own row: the checks that the operand types do not already make.
-/

namespace Sys2Proof

/-- The reserved bits 23:22 of a request word are not both 0 (R174). -/
def reservedBitsSet (word : BitVec 24) : Bool :=
  word.getLsbD 22 || word.getLsbD 23

/-- The address of a request word lies in 80100h to 0FFFFFh (R168). -/
def unmappedAddress (word : BitVec 24) : Bool :=
  decide (0x80100#20 ≤ word.extractLsb' 0 20)

/-- The offset is one of CLAIM_0 to CLAIM_7 (R176), whose reads are the row CLAIM. -/
def isClaimOffset (offset : BitVec 8) : Bool :=
  offset ∈ [0x20#8, 0x22#8, 0x24#8, 0x26#8, 0x28#8, 0x2A#8, 0x2C#8, 0x2E#8]

/-- The offset is a register whose write is a row of its own: NOTICE_POP, THRESHOLD, CANCEL_READS, RELEASE, REARM,
CFG_DATA, CFG_CDATA (R176). -/
def hasOwnWriteRow (offset : BitVec 8) : Bool :=
  offset ∈ [0x0C#8, 0x0E#8, 0x10#8, 0x30#8, 0x32#8, 0x42#8, 0x46#8]

/-- A command is well formed when it is a request or event of its own row. A raw request must be unmapped or carry
reserved bits; a control read must not be a claim; a control write must not be one with a row of its own. -/
def Instr.wellFormed : Instr → Bool
  | .slotRead _ _ _ _ => true
  | .slotWrite _ _ _ _ _ => true
  | .unmappedRequest _ word _ => reservedBitsSet word || unmappedAddress word
  | .portStatus _ width offset => !(decide (width = .word) && isClaimOffset offset)
  | .noticePop _ _ => true
  | .threshold _ _ => true
  | .cancelReads _ _ => true
  | .claim _ _ => true
  | .release _ _ => true
  | .rearm _ _ => true
  | .cfgDataWrite _ _ => true
  | .cfgCdataWrite _ _ => true
  | .registerWrite _ width offset _ => !(decide (width = .word) && hasOwnWriteRow offset)
  | .attentionLineActive _ => true
  | .attentionLineInactive _ => true
  | .tickEvent => true
  | .collectionTimerExpiry _ _ _ _ => true
  | .lifetimeExpiry _ => true
  | .claimTimeout _ => true
  | .holdTimeout _ => true
  | .selection => true
  | .setupEnd _ => true
  | .strobePeriodEnd _ _ _ => true
  | .ready _ _ => true
  | .decline => true
  | .readyLimitExpiry => true
  | .recoveryEnd => true
  | .completion => true
  | .placementPass _ => true
  | .portReset _ => true
  | .returnToUp _ => true
  | .gatewayReset => true
  | .gatewayResetEnd => true

end Sys2Proof
end

