-- ==== Sys2Proof/Decode.lean ====
section
/-!
DEFINITION. Decode: the request word of a host link (R174), the port's decode of it into the three regions and
the control window (R168 to R170, R176), the request word of each host command, and `decodeTableWord`.

The opcode table gives none of its rows bits, so `decodeTableWord` answers `none` for every word. What has bits on
this part is the request on a host link: `decodeRequest` is what the port makes of one, `commandOf` is the table's
row such a request belongs to, and `Instr.request` writes the request word of a command.
-/

namespace Sys2Proof

/-- The registers of the control window (R176). -/
inductive ControlReg
  | statusFirst
  | statusSecond
  | head (i : Fin 4)
  | noticePop
  | threshold
  | cancelReads
  | claim (n : SourceId)
  | release
  | rearm
  | cfgIndex
  | cfgData
  | cfgExpect
  | cfgCdata
  | cfgGen
  deriving DecidableEq, Repr

/-- The offset of a register in the control window (R176). -/
def ControlReg.offset : ControlReg → BitVec 8
  | .statusFirst => 0x00#8
  | .statusSecond => 0x02#8
  | .head i => BitVec.ofNat 8 (0x04 + 2 * i.val)
  | .noticePop => 0x0C#8
  | .threshold => 0x0E#8
  | .cancelReads => 0x10#8
  | .claim n => BitVec.ofNat 8 (0x20 + 2 * n.val)
  | .release => 0x30#8
  | .rearm => 0x32#8
  | .cfgIndex => 0x40#8
  | .cfgData => 0x42#8
  | .cfgExpect => 0x44#8
  | .cfgCdata => 0x46#8
  | .cfgGen => 0x48#8

/-- Every register of the control window, in the order of R176's table. -/
def ControlReg.all : List ControlReg :=
  [.statusFirst, .statusSecond, .head 0, .head 1, .head 2, .head 3, .noticePop, .threshold, .cancelReads] ++
    [.claim 0, .claim 1, .claim 2, .claim 3, .claim 4, .claim 5, .claim 6, .claim 7] ++
    [.release, .rearm, .cfgIndex, .cfgData, .cfgExpect, .cfgCdata, .cfgGen]

/-- The registers with read access (R176). -/
def ControlReg.readable : ControlReg → Bool
  | .statusFirst | .statusSecond | .head _ | .threshold | .claim _ | .cfgIndex | .cfgData | .cfgExpect
  | .cfgGen => true
  | .noticePop | .cancelReads | .release | .rearm | .cfgCdata => false

/-- The registers with write access (R176). -/
def ControlReg.writable : ControlReg → Bool
  | .noticePop | .threshold | .cancelReads | .release | .rearm | .cfgIndex | .cfgData | .cfgExpect
  | .cfgCdata => true
  | .statusFirst | .statusSecond | .head _ | .claim _ | .cfgGen => false

/-- The register at an offset of the control window, if there is one (R170, R176). -/
def regAt (offset : BitVec 8) : Option ControlReg :=
  ControlReg.all.find? fun r => r.offset == offset

/-- A request as its port hands it on: to the pool, to a register's owner, or to no block (R168). -/
inductive Access
  | slotRead (slot : SlotId) (offset : Word) (width : Width)
  | slotWrite (slot : SlotId) (offset : Word) (width : Width) (data : Word)
  | readReg (r : ControlReg)
  | writeReg (r : ControlReg) (value : Word)
  | badAddress
  deriving DecidableEq, Repr

/-- The three tests of R170 on a control read: a register, a WORD, with read access. -/
def controlRead (width : Width) (offset : BitVec 8) : Access :=
  match regAt offset with
  | some r => if width = .word ∧ r.readable then .readReg r else .badAddress
  | none => .badAddress

/-- The three tests of R170 on a control write: a register, a WORD, with write access. -/
def controlWrite (width : Width) (offset : BitVec 8) (value : Word) : Access :=
  match regAt offset with
  | some r => if width = .word ∧ r.writable then .writeReg r value else .badAddress
  | none => .badAddress

/-- The width bit 20 of a request word: 0 BYTE, 1 WORD (R174). -/
def requestWidth (word : BitVec 24) : Width :=
  if word.getLsbD 20 then .word else .byte

/-- The kind bit 21 of a request word: 1 for a write (R174). -/
def requestIsWrite (word : BitVec 24) : Bool :=
  word.getLsbD 21

/-- The slot that address bits 18:16 name (R169). -/
def requestSlot (word : BitVec 24) : SlotId :=
  Fin.ofNat 8 (word.extractLsb' 16 3).toNat

/-- The region of a request word by its address, the reserved bits tested first (R168, R174). -/
inductive Region
  | slotSpace (slot : SlotId) (offset : Word)
  | control (offset : BitVec 8)
  | unmapped
  deriving DecidableEq, Repr

/-- R168's regions: 00000h to 7FFFFh, 80000h to 800FFh, and the rest; set reserved bits count as unmapped (R174). -/
def requestRegion (word : BitVec 24) : Region :=
  if reservedBitsSet word || unmappedAddress word then .unmapped
  else if word.getLsbD 19 then .control (word.extractLsb' 0 8)
  else .slotSpace (requestSlot word) (word.extractLsb' 0 16)

/-- What the port makes of a request word and, for a write, its data word (R168 to R170, R174). -/
def decodeRequest (word : BitVec 24) (data : Word) : Access :=
  match requestRegion word with
  | .unmapped => .badAddress
  | .slotSpace slot offset =>
    if requestIsWrite word then .slotWrite slot offset (requestWidth word) data
    else .slotRead slot offset (requestWidth word)
  | .control offset =>
    if requestIsWrite word then controlWrite (requestWidth word) offset data
    else controlRead (requestWidth word) offset

/-- The row a control write belongs to: a row of its own for seven registers, REGISTER_WRITE for the rest. -/
def controlWriteCommand (h : HostId) (width : Width) (offset : BitVec 8) (value : Word) : Instr :=
  match controlWrite width offset value with
  | .writeReg .noticePop v => .noticePop h v
  | .writeReg .threshold v => .threshold h v
  | .writeReg .cancelReads v => .cancelReads h v
  | .writeReg .release v => .release h v
  | .writeReg .rearm v => .rearm h v
  | .writeReg .cfgData v => .cfgDataWrite h v
  | .writeReg .cfgCdata v => .cfgCdataWrite h v
  | _ => .registerWrite h width offset value

/-- The row a control read belongs to: CLAIM for a read of CLAIM_n, PORT_STATUS for the rest. -/
def controlReadCommand (h : HostId) (width : Width) (offset : BitVec 8) : Instr :=
  match controlRead width offset with
  | .readReg (.claim n) => .claim h n
  | _ => .portStatus h width offset

/-- The command of the opcode table that a request word of host `h` spells. -/
def commandOf (h : HostId) (word : BitVec 24) (data : Word) : Instr :=
  match requestRegion word with
  | .unmapped => .unmappedRequest h word data
  | .slotSpace slot offset =>
    if requestIsWrite word then .slotWrite h slot offset (requestWidth word) data
    else .slotRead h slot offset (requestWidth word)
  | .control offset =>
    if requestIsWrite word then controlWriteCommand h (requestWidth word) offset data
    else controlReadCommand h (requestWidth word) offset

/-- The width bit of a request word (R174). -/
def Width.bit : Width → BitVec 1
  | .byte => 0#1
  | .word => 1#1

/-- The request word of a slot request: reserved 00, kind, width, address (R169, R174). -/
def slotRequestWord (write : BitVec 1) (width : Width) (slot : SlotId) (offset : Word) : BitVec 24 :=
  0#2 ++ write ++ width.bit ++ 0#1 ++ BitVec.ofNat 3 slot.val ++ offset

/-- The request word of a control access: address 80000h plus the offset (R170, R174). -/
def controlRequestWord (write : BitVec 1) (width : Width) (offset : BitVec 8) : BitVec 24 :=
  0#2 ++ write ++ width.bit ++ 0x800#12 ++ offset

/-- The host, request word and data word by which a host presents a command; `none` for an event. The data word of
a read is not carried and stands as 0 here (R174). -/
def Instr.request : Instr → Option (HostId × BitVec 24 × Word)
  | .slotRead h slot offset width => some (h, slotRequestWord 0#1 width slot offset, 0#16)
  | .slotWrite h slot offset width data => some (h, slotRequestWord 1#1 width slot offset, data)
  | .unmappedRequest h word data => some (h, word, data)
  | .portStatus h width offset => some (h, controlRequestWord 0#1 width offset, 0#16)
  | .noticePop h value => some (h, controlRequestWord 1#1 .word ControlReg.noticePop.offset, value)
  | .threshold h value => some (h, controlRequestWord 1#1 .word ControlReg.threshold.offset, value)
  | .cancelReads h value => some (h, controlRequestWord 1#1 .word ControlReg.cancelReads.offset, value)
  | .claim h n => some (h, controlRequestWord 0#1 .word (ControlReg.claim n).offset, 0#16)
  | .release h value => some (h, controlRequestWord 1#1 .word ControlReg.release.offset, value)
  | .rearm h value => some (h, controlRequestWord 1#1 .word ControlReg.rearm.offset, value)
  | .cfgDataWrite h value => some (h, controlRequestWord 1#1 .word ControlReg.cfgData.offset, value)
  | .cfgCdataWrite h value => some (h, controlRequestWord 1#1 .word ControlReg.cfgCdata.offset, value)
  | .registerWrite h width offset value => some (h, controlRequestWord 1#1 width offset, value)
  | .attentionLineActive _ => none
  | .attentionLineInactive _ => none
  | .tickEvent => none
  | .collectionTimerExpiry _ _ _ _ => none
  | .lifetimeExpiry _ => none
  | .claimTimeout _ => none
  | .holdTimeout _ => none
  | .selection => none
  | .setupEnd _ => none
  | .strobePeriodEnd _ _ _ => none
  | .ready _ _ => none
  | .decline => none
  | .readyLimitExpiry => none
  | .recoveryEnd => none
  | .completion => none
  | .placementPass _ => none
  | .portReset _ => none
  | .returnToUp _ => none
  | .gatewayReset => none
  | .gatewayResetEnd => none

/-- The command that a word spells by the opcode table's bits. No row of the table gives bits, so no word spells
one. -/
def decodeTableWord (_nbits _w : Nat) : Option Instr :=
  none

end Sys2Proof
end

