-- ==== Sys2Proof/Config.lean ====
section
/-!
DEFINITION. What is fixed for the part, and the values the manual leaves to the target.

The two sizes are fixed by the manual. The two `opaque` constants are FREE VALUES: nothing can be proved of what
they answer. They stand for what a target drives on the data lanes and on PPAR when a read beat of a slot with
ready limit 0 is sampled at a bus clock that no command described (assumption 4).
-/

namespace Sys2Proof.Config

/-- The pool has 32 record places (R1). -/
abbrev poolPlaces : Nat := 32

/-- A notice queue holds at most 8 notices (R113). -/
abbrev queuePlaces : Nat := 8

/-- The data lanes PD15 to PD0 that the target drives at the `k`-th sampling no command described. FREE VALUE. -/
opaque targetLanes : Nat → Word

/-- The parity line PPAR that the target drives at the `k`-th sampling no command described. FREE VALUE. -/
opaque targetParity : Nat → Bool

end Sys2Proof.Config
end

