-- ==== Sys2Proof/Machine/State.lean ====
section
/-!
DEFINITION. The state of the gateway, its faults and refusals, and the state right after reset.

Each block of the part has its own structure: request pool (chapter 1), transfer arbiter (2), bus sequencer and
P-bus pins (3), read-ahead lines (4), attention sources (5), host ports with their notice queues (6, 9),
configuration set (7), timebase (8). State is plain data throughout.
-/

namespace Sys2Proof.Machine

/-! ## Request pool (chapter 1) -/

/-- The faults a record can hold (R1). -/
inductive AccessFault
  | busTimeout
  | busParity
  | busDeclined
  | slotOff
  deriving DecidableEq, Repr

/-- What a completed READ holds: its data, or the fault of its access, never both (R1, R57). -/
inductive ReadResult
  | data (w : Word)
  | fault (f : AccessFault)
  deriving DecidableEq, Repr

/-- The kind of a record, a WRITE with its data (R1). A BYTE write keeps its byte in the low eight bits, the upper
eight 0. -/
inductive JobKind
  | read
  | write (data : Word)
  deriving DecidableEq, Repr

/-- The part of a record that is fixed at admission and that the bus sequencer performs (R1). -/
structure Job where
  kind : JobKind
  slot : SlotId
  offset : Word
  width : Width
  deriving DecidableEq, Repr

/-- The state of a record with the fields present in that state only (R1, R2). -/
inductive RecordState
  | queued
  | onBus (abandoned : Bool)
  | done (result : ReadResult) (timer : Nat)
  | failed (fault : AccessFault) (partialWrite : Option Bool)
  | orphaned
  deriving DecidableEq, Repr

/-- One record of the request pool (R1). -/
structure Record extends Job where
  host : HostId
  epoch : BitVec 4
  state : RecordState
  deriving DecidableEq, Repr

/-! ## Transfer arbiter (chapter 2) -/

/-- The transfer arbiter: grant holder and quantum remaining (R30). -/
structure Arbiter where
  holder : Option HostId
  quantum : Nat
  deriving DecidableEq, Repr

/-! ## Bus sequencer and P-bus (chapter 3) -/

/-- The parity mode of a slot (R43). -/
inductive Parity
  | none
  | even
  | odd
  deriving DecidableEq, Repr

/-- A slot profile as the sequencer latches it at issue; `wide` is 16-bit width (R43, R45). -/
structure Profile where
  prefetchable : Bool
  wide : Bool
  parity : Parity
  setup : Nat
  strobe : Nat
  recovery : Nat
  readyLimit : Nat
  deriving DecidableEq, Repr

/-- The phase of the beat in progress (R45). -/
inductive Phase
  | setup
  | strobe
  | readyWait
  | recovery
  deriving DecidableEq, Repr

/-- The sequencer's state in ACCESS or FILL (R45). `fillLine` is the slot and line base of the line being filled,
absent for a single access. `index` counts the beats from 1. `collected` holds the bytes read so far, each with its
offset. `endingFault` is the fault with the index of the beat that ended in it. `phaseClocks` counts the bus clocks
spent in the phase; it is the model's own field (assumption 3). -/
structure Operation where
  job : Job
  profile : Profile
  fillLine : Option (SlotId × Word)
  plan : List Word
  index : Nat
  phase : Phase
  phaseClocks : Nat
  collected : List (Word × Byte)
  endingFault : Option (AccessFault × Nat)
  deriving DecidableEq, Repr

/-- The P-bus pins that the gateway drives (00_scope, signal summary; R51, R55, R56, R65, R66). `psel` names the one
select asserted; `pd` and `ppar` are `none` while the gateway does not drive them. -/
structure BusPins where
  psel : Option SlotId
  pstb : Bool
  pa : Word
  pwr : Bool
  pd : Option Word
  ppar : Option Bool
  pbrst : Bool
  deriving DecidableEq, Repr

/-! ## Read-ahead lines (chapter 4) -/

/-- One read-ahead line entry with the fields present in each state (R67). -/
inductive LineEntry
  | invalid
  | filling (slot : SlotId) (base : Word) (poisoned : Bool)
  | valid (slot : SlotId) (base : Word) (data : Vector Byte 16) (timer : Nat)
  deriving DecidableEq, Repr

/-- The eight line entries and their recency order, most recent first (R67, R69). -/
structure ReadAhead where
  entries : Vector LineEntry 8
  recency : List EntryId
  deriving DecidableEq, Repr

/-! ## Attention sources (chapter 5) -/

/-- The kind of an owed attention entry, with its round where it carries one (R89). -/
inductive AttentionKind
  | attention (round : Nat)
  | repeated (round : Nat)
  | sourceStuck
  deriving DecidableEq, Repr

/-- An owed attention entry with the priority it was owed with (R91). -/
structure OwedEntry where
  kind : AttentionKind
  priority : BitVec 2
  deriving DecidableEq, Repr

/-- The cause of a forced release (R92). -/
inductive Cause
  | holdExpired
  | routeChanged
  deriving DecidableEq, Repr

/-- The state of a source with the fields present in that state only (R89, R90). -/
inductive SourceState
  | idle
  | raised (round : Nat) (timer : Nat)
  | claimed (holder : HostId) (timer : Option Nat)
  | stuck
  deriving DecidableEq, Repr

/-- One attention source entry (R89). `line` is the line level as last taken, `true` for active. -/
structure Source where
  state : SourceState
  line : Bool
  owed : Vector (Option OwedEntry) 4
  forced : Vector (Option Cause) 4
  deriving DecidableEq, Repr

/-! ## Notices and host ports (chapters 6 and 9) -/

/-- The kind of a notice with the fields of its kind (R111). -/
inductive NoticeBody
  | attention (source : SourceId) (round : Nat)
  | repeated (source : SourceId) (round : Nat)
  | sourceStuck (source : SourceId)
  | forcedRelease (source : SourceId) (cause : Cause)
  | writeFailed (slot : SlotId) (offset : Word) (width : Width) (fault : AccessFault) (partialWrite : Bool)
      (epoch : BitVec 4)
  | readOrphaned (slot : SlotId) (offset : Word) (width : Width)
  | configChanged (generation : Word) (writer : HostId)
  deriving DecidableEq, Repr

/-- A notice (R111). -/
structure Notice where
  sequence : BitVec 8
  priority : BitVec 2
  body : NoticeBody
  deriving DecidableEq, Repr

/-- The reasons of a RETRY (R167, R175). -/
inductive RetryReason
  | pending
  | quotaFull
  | poolFull
  deriving DecidableEq, Repr

/-- The codes of a FAULT answer (R175). -/
inductive FaultCode
  | badAddress
  | align
  | slotOff
  | busTimeout
  | busParity
  | busDeclined
  | staleGeneration
  | badValue
  | notHolder
  | notSubscribed
  | queueEmpty
  deriving DecidableEq, Repr

/-- The answer of a request (R167). -/
inductive Answer
  | data (w : Word)
  | accept
  | retry (reason : RetryReason)
  | fault (code : FaultCode)
  deriving DecidableEq, Repr

/-- One host port (R160) with the host's notice queue, head first (R113), and its CONFIG_CHANGED flag, `some` with
the writer recorded while the flag is set (R115, R139). `prst` is the level of PRSTh, `true` while asserted.
`answer` is what the link carried back for the latest request presented, `none` where none was taken
(assumption 1). -/
structure Port where
  up : Bool
  prst : Bool
  epoch : BitVec 4
  latch : Word
  threshold : BitVec 2
  sequence : BitVec 8
  nline : Bool
  cfgIndex : Word
  cfgExpect : Word
  queue : List Notice
  changed : Option HostId
  answer : Option Answer
  deriving DecidableEq, Repr

/-! ## Configuration set (chapter 7) and timebase (chapter 8) -/

/-- The 49 configuration items, each held as its word (R128, R180, R181), and the generation (R136). -/
structure ConfigSet where
  tickDiv : Word
  collectLimit : Word
  lineLife : Word
  arbQuantum : Word
  quota : Vector Word 4
  subscribers : Word
  mode : Vector Word 8
  timingA : Vector Word 8
  timingB : Vector Word 8
  routeA : Vector Word 8
  routeB : Vector Word 8
  generation : Word
  deriving DecidableEq, Repr

/-- The timebase: bus clocks since the last tick event, and the divisor in effect (R149). -/
structure Timebase where
  count : Nat
  divisor : Word
  deriving DecidableEq, Repr

/-! ## The whole part -/

/-- The state of the gateway. `grst` is the level of GRST and `patn` the levels of PATN0 to PATN7, `true` while
asserted or active. `samples` counts the samplings of free lanes (assumption 4) and `pending` is the queue of
commands that wait, first in first out; both are the model's own. -/
structure State where
  pool : List Record
  arbiter : Arbiter
  sequencer : Option Operation
  bus : BusPins
  lines : ReadAhead
  sources : Vector Source 8
  ports : Vector Port 4
  cfg : ConfigSet
  timebase : Timebase
  grst : Bool
  patn : Vector Bool 8
  samples : Nat
  pending : List Instr
  deriving DecidableEq, Repr

/-- The reasons a command could stop the machine. There is none: every command of the table is answered or changes
the state, so no constructor is needed and no step faults. Safe. -/
inductive Fault
  deriving DecidableEq, Repr

/-- The reasons a command could be refused. -/
inductive Refusal
  /-- Raised by an arm of `exec` for a command that has no meaning in the model yet. No arm raises it. Safe. -/
  | notModelled (mnemonic : String)
  deriving DecidableEq, Repr

/-! ## Reset values -/

/-- The configuration set at its reset values (R128; Formats, reset values as words). -/
def ConfigSet.reset : ConfigSet where
  tickDiv := 0x0064#16
  collectLimit := 0x07D0#16
  lineLife := 0x0032#16
  arbQuantum := 0x0000#16
  quota := Vector.replicate 4 0x0008#16
  subscribers := 0x0000#16
  mode := Vector.replicate 8 0x0000#16
  timingA := Vector.replicate 8 0x0803#16
  timingB := Vector.replicate 8 0x1004#16
  routeA := Vector.replicate 8 0x0310#16
  routeB := Vector.replicate 8 0x0064#16
  generation := 0x0000#16

/-- The arbiter after gateway reset (R30, R40). -/
def Arbiter.reset : Arbiter where
  holder := none
  quantum := 0

/-- The P-bus at rest after gateway reset (R66); `pbrst` is asserted while GRST is (R65). -/
def BusPins.reset (pbrst : Bool) : BusPins where
  psel := none
  pstb := false
  pa := 0x0000#16
  pwr := false
  pd := none
  ppar := none
  pbrst := pbrst

/-- Every line entry INVALID and the recency order empty (R83). -/
def ReadAhead.reset : ReadAhead where
  entries := Vector.replicate 8 .invalid
  recency := []

/-- A source after gateway reset: IDLE with nothing owed (R109). -/
def Source.reset : Source where
  state := .idle
  line := false
  owed := Vector.replicate 4 none
  forced := Vector.replicate 4 none

/-- The timebase after gateway reset (R157). -/
def Timebase.reset : Timebase where
  count := 0
  divisor := 0x0064#16

/-- A port right after gateway reset has ended with its PRSTh deasserted: UP, every other item at R160's value. -/
def Port.reset : Port where
  up := true
  prst := false
  epoch := 0
  latch := 0x0000#16
  threshold := 1
  sequence := 0
  nline := false
  cfgIndex := 0x0000#16
  cfgExpect := 0x0000#16
  queue := []
  changed := none
  answer := none

/-- The gateway right after a gateway reset has ended, with PRST0 to PRST3 deasserted and every attention line
inactive (assumption 5), and no command waiting. -/
def State.reset : State where
  pool := []
  arbiter := Arbiter.reset
  sequencer := none
  bus := BusPins.reset false
  lines := ReadAhead.reset
  sources := Vector.replicate 8 Source.reset
  ports := Vector.replicate 4 Port.reset
  cfg := ConfigSet.reset
  timebase := Timebase.reset
  grst := false
  patn := Vector.replicate 8 false
  samples := 0
  pending := []

end Sys2Proof.Machine
end

