-- ==== Sys2Proof/Machine/Ops.lean ====
section
/-!
DEFINITION. The shared operations over the state: one accessor and one update for each kind of indexed state, the
queries of the request pool (R3 to R13), the lookups of the read-ahead lines (R68), and the taking of a request
(R161, R162, R167).
-/

namespace Sys2Proof.Machine

/-! ## The index ranges -/

/-- The hosts in number order. -/
def allHosts : List HostId := [0, 1, 2, 3]

/-- The slots, sources and line entries in number order. -/
def allEight : List (Fin 8) := [0, 1, 2, 3, 4, 5, 6, 7]

/-! ## Accessors and updates -/

/-- The port of host `h`. -/
def State.port (s : State) (h : HostId) : Port := s.ports[h]

/-- The attention source `n`. -/
def State.source (s : State) (n : SourceId) : Source := s.sources[n]

/-- The line entry `e`. -/
def State.entry (s : State) (e : EntryId) : LineEntry := s.lines.entries[e]

/-- The state with port `h` changed by `f`. -/
def State.modPort (s : State) (h : HostId) (f : Port → Port) : State :=
  { s with ports := s.ports.set h (f s.ports[h]) }

/-- The state with every port changed by `f`. -/
def State.mapPorts (s : State) (f : HostId → Port → Port) : State :=
  { s with ports := Vector.ofFn fun h => f h s.ports[h] }

/-- The state with source `n` changed by `f`. -/
def State.modSource (s : State) (n : SourceId) (f : Source → Source) : State :=
  { s with sources := s.sources.set n (f s.sources[n]) }

/-- The state with every source changed by `f`. -/
def State.mapSources (s : State) (f : SourceId → Source → Source) : State :=
  { s with sources := Vector.ofFn fun n => f n s.sources[n] }

/-- The first element of `l` that meets `p` changed by `f`, the others as they were. -/
def updateFirst {α : Type} (p : α → Bool) (f : α → α) : List α → List α
  | [] => []
  | x :: xs => if p x then f x :: xs else x :: updateFirst p f xs

/-! ## Bytes and lines (R3, R68) -/

/-- The base of the line that holds an offset: the offset rounded down to a multiple of 16 (R3). -/
def lineBase (offset : Word) : Word := offset &&& 0xFFF0#16

/-- The offsets of the target bytes of an access (R3). -/
def targetBytes (offset : Word) : Width → List Word
  | .byte => [offset]
  | .word => [offset, offset + 1#16]

/-- The job targets a byte of the line of `slot` with base `base` (R3, R13). -/
def Job.touchesLine (j : Job) (slot : SlotId) (base : Word) : Bool :=
  j.slot == slot && (targetBytes j.offset j.width).any fun o => lineBase o == base

/-- The job is a WRITE. -/
def Job.isWrite (j : Job) : Bool :=
  match j.kind with
  | .read => false
  | .write _ => true

/-! ## Records (R1, R2) -/

/-- The record waits to be selected (R2). -/
def Record.isQueued (r : Record) : Bool :=
  match r.state with
  | .queued => true
  | _ => false

/-- The record is being performed on the bus (R2). -/
def Record.isOnBus (r : Record) : Bool :=
  match r.state with
  | .onBus _ => true
  | _ => false

/-- The record is a completed read waiting for collection (R2). -/
def Record.isDone (r : Record) : Bool :=
  match r.state with
  | .done _ _ => true
  | _ => false

/-- The record is a FAILED write (R2). -/
def Record.isFailed (r : Record) : Bool :=
  match r.state with
  | .failed _ _ => true
  | _ => false

/-- The record is an ORPHANED read (R2). -/
def Record.isOrphaned (r : Record) : Bool :=
  match r.state with
  | .orphaned => true
  | _ => false

/-- The record is a write still to be performed: the WRITE records that the write-pending queries count (R13). -/
def Record.isPendingWrite (r : Record) : Bool :=
  r.isWrite && (r.isQueued || r.isOnBus)

/-- The record is a candidate for read matching: a READ that is QUEUED, ON_BUS and not abandoned, or DONE (R9). -/
def Record.isCandidate (r : Record) : Bool :=
  !r.isWrite &&
    match r.state with
    | .queued => true
    | .onBus abandoned => !abandoned
    | .done _ _ => true
    | .failed _ _ => false
    | .orphaned => false

/-- The record matches a slot read of this key (R9). -/
def Record.isMatch (h : HostId) (slot : SlotId) (offset : Word) (width : Width) (r : Record) : Bool :=
  r.isCandidate && r.host == h && r.slot == slot && r.offset == offset && r.width == width

/-- The oldest QUEUED record of host `h` is the first to meet this (R35). -/
def Record.isQueuedOf (h : HostId) (r : Record) : Bool :=
  r.host == h && r.isQueued

/-- The record is a FAILED write of host `h` (R20). -/
def Record.isFailedOf (h : HostId) (r : Record) : Bool :=
  r.host == h && r.isFailed

/-- The record is an ORPHANED read of host `h` (R20). -/
def Record.isOrphanedOf (h : HostId) (r : Record) : Bool :=
  r.host == h && r.isOrphaned

/-! ## The pool (R4 to R7, R13)

The pool is one list of records in order of admission. The lane of a host is the sublist of its records (R4); the
free places are what the list leaves of the 32. -/

/-- The lane of host `h`, oldest first (R4). -/
def State.lane (s : State) (h : HostId) : List Record :=
  s.pool.filter fun r => r.host == h

/-- The held count of host `h` (R5). -/
def State.held (s : State) (h : HostId) : Nat :=
  s.pool.countP fun r => r.host == h

/-- The number of host `h`'s records in DONE (R25). -/
def State.doneCount (s : State) (h : HostId) : Nat :=
  s.pool.countP fun r => r.host == h && r.isDone

/-- The lane query: host `h` has a write still to be performed (R13). -/
def State.laneQuery (s : State) (h : HostId) : Bool :=
  s.pool.any fun r => r.host == h && r.isPendingWrite

/-- The line query: some host has a write still to be performed into the line (R13). -/
def State.lineQuery (s : State) (slot : SlotId) (base : Word) : Bool :=
  s.pool.any fun r => r.isPendingWrite && r.touchesLine slot base

/-- The matching record of a slot read, if there is one (R9). -/
def State.matching (s : State) (h : HostId) (slot : SlotId) (offset : Word) (width : Width) : Option Record :=
  s.pool.find? (Record.isMatch h slot offset width)

/-! ## The lines (R68) -/

/-- The entry is VALID and covers the offset (R68). -/
def LineEntry.isValidAt (slot : SlotId) (offset : Word) : LineEntry → Bool
  | .valid s b _ _ => s == slot && b == lineBase offset
  | _ => false

/-- The entry is FILLING for the line of the slot with this base (R72). -/
def LineEntry.isFillingFor (slot : SlotId) (base : Word) : LineEntry → Bool
  | .filling s b _ => s == slot && b == base
  | _ => false

/-- The entry is INVALID (R68). -/
def LineEntry.isInvalid : LineEntry → Bool
  | .invalid => true
  | _ => false

/-- The VALID entry that covers an offset of a slot, if there is one (R68). -/
def State.validEntry (s : State) (slot : SlotId) (offset : Word) : Option EntryId :=
  allEight.find? fun e => (s.entry e).isValidAt slot offset

/-! ## Taking a request (R161, R162, R167) -/

/-- The port of host `h` takes a request: where it is UP, the owner `f` decides it and the answer goes on the link
in the same event (R167); where it is DOWN, no block is reached and no answer is given (R162). -/
def State.take (s : State) (h : HostId) (f : State → State × Answer) : State :=
  if (s.port h).up then
    let r := f s
    r.1.modPort h fun p => { p with answer := some r.2 }
  else s.modPort h fun p => { p with answer := none }

end Sys2Proof.Machine
end

