-- ==== Sys2Proof/Machine/Operands.lean ====
section
/-!
DEFINITION. The formats of chapter 10: the fields of the configuration words (R180, R181), the answer word (R175),
the claim result word (R177), the two PORT_STATUS words (R178), the four notice head words (R179), and the data and
parity that a beat carries on the P-bus (R49, R54, R55).
-/

namespace Sys2Proof.Machine

/-! ## Configuration words (R180, R181) -/

/-- A bit field of a word as a number: bits `lo` to `lo + len - 1`. -/
def field (w : Word) (lo len : Nat) : Nat := (w.extractLsb' lo len).toNat

/-- The parity mode that bits 5:4 of a mode word encode; 11 is reserved and never held by the set (R180). -/
def parityOf (mode : Word) : Parity :=
  if mode.getLsbD 4 then .even else if mode.getLsbD 5 then .odd else .none

/-- The enable field of slot `slot` (R43, R180). -/
def ConfigSet.enabled (c : ConfigSet) (slot : SlotId) : Bool := c.mode[slot].getLsbD 0

/-- The 16-bit width field of slot `slot` (R43, R180). -/
def ConfigSet.wide (c : ConfigSet) (slot : SlotId) : Bool := c.mode[slot].getLsbD 1

/-- The prefetchable field of slot `slot` (R43, R180). -/
def ConfigSet.prefetchable (c : ConfigSet) (slot : SlotId) : Bool := c.mode[slot].getLsbD 2

/-- The profile of a slot as the sequencer copies it at an issue (R43, R44, R180). -/
def ConfigSet.profile (c : ConfigSet) (slot : SlotId) : Profile where
  prefetchable := c.prefetchable slot
  wide := c.wide slot
  parity := parityOf c.mode[slot]
  setup := field c.timingA[slot] 0 4
  strobe := field c.timingA[slot] 8 6
  recovery := field c.timingB[slot] 0 6
  readyLimit := field c.timingB[slot] 8 8

/-- The route of an attention source (R87); bit `h` of `subscribers` is set for a subscribed host. -/
structure Route where
  subscribers : BitVec 4
  priority : BitVec 2
  repeatLimit : Nat
  claimTimeout : Nat
  holdTimeout : Nat
  deriving DecidableEq, Repr

/-- The route that two route words hold (R181). -/
def routeOf (a b : Word) : Route where
  subscribers := a.extractLsb' 0 4
  priority := a.extractLsb' 4 2
  repeatLimit := field a 8 3
  claimTimeout := field b 0 8
  holdTimeout := field b 8 8

/-- The route of source `n` (R87). -/
def ConfigSet.route (c : ConfigSet) (n : SourceId) : Route := routeOf c.routeA[n] c.routeB[n]

/-- Host `h` is in the subscribers of a route (R87). -/
def Route.subscribes (r : Route) (h : HostId) : Bool := r.subscribers.getLsbD h.val

/-- Some host is in the subscribers of a route (R93). -/
def Route.hasSubscriber (r : Route) : Bool := r.subscribers != 0#4

/-- Host `h` is in CFG_SUBSCRIBERS (R140, R180). -/
def ConfigSet.cfgSubscribes (c : ConfigSet) (h : HostId) : Bool := c.subscribers.getLsbD h.val

/-- The quota of host `h` (R6). -/
def ConfigSet.quotaOf (c : ConfigSet) (h : HostId) : Nat := c.quota[h].toNat

/-- The quantum that the ARB_QUANTUM code loads: 1, 2, 4 or 8 (R34). -/
def ConfigSet.quantum (c : ConfigSet) : Nat := 2 ^ field c.arbQuantum 0 2

/-! ## The answer word (R175) -/

/-- The code of a RETRY reason (R175). -/
def RetryReason.code : RetryReason → Word
  | .pending => 0x0001#16
  | .quotaFull => 0x0002#16
  | .poolFull => 0x0003#16

/-- The code of a fault (R175). -/
def FaultCode.code : FaultCode → Word
  | .badAddress => 0x0001#16
  | .align => 0x0002#16
  | .slotOff => 0x0003#16
  | .busTimeout => 0x0004#16
  | .busParity => 0x0005#16
  | .busDeclined => 0x0006#16
  | .staleGeneration => 0x0007#16
  | .badValue => 0x0008#16
  | .notHolder => 0x0009#16
  | .notSubscribed => 0x000A#16
  | .queueEmpty => 0x000B#16

/-- The answer word of 18 bits: the class in bits 17:16, the payload below (R175). -/
def Answer.word : Answer → BitVec 18
  | .data w => 0b00#2 ++ w
  | .accept => 0b01#2 ++ 0x0000#16
  | .retry reason => 0b10#2 ++ reason.code
  | .fault code => 0b11#2 ++ code.code

/-- The answer code of a record's fault (R12). -/
def AccessFault.faultCode : AccessFault → FaultCode
  | .busTimeout => .busTimeout
  | .busParity => .busParity
  | .busDeclined => .busDeclined
  | .slotOff => .slotOff

/-! ## Claim results (R94, R177) -/

/-- The result of a claim (R94). -/
inductive ClaimResult
  | granted
  | alreadyYours
  | heldBy (g : HostId)
  | notRaised
  | notSubscribed
  | stuck
  deriving DecidableEq, Repr

/-- The claim result word: result in bits 2:0, for HELD the holder in bits 9:8 (R177). -/
def ClaimResult.word : ClaimResult → Word
  | .granted => 0x0001#16
  | .alreadyYours => 0x0002#16
  | .heldBy g => 0#6 ++ BitVec.ofNat 2 g.val ++ 0x03#8
  | .notRaised => 0x0004#16
  | .notSubscribed => 0x0005#16
  | .stuck => 0x0006#16

/-! ## PORT_STATUS words (R171, R178) -/

/-- The first PORT_STATUS word of host `h`: notice count, DONE count, held count (R178). -/
def State.statusFirst (s : State) (h : HostId) : Word :=
  BitVec.ofNat 4 (s.port h).queue.length ++ BitVec.ofNat 6 (s.doneCount h) ++ BitVec.ofNat 6 (s.held h)

/-- The second PORT_STATUS word of host `h`: NLINE, epoch, quota (R178). -/
def State.statusSecond (s : State) (h : HostId) : Word :=
  BitVec.ofBool (s.port h).nline ++ 0#3 ++ (s.port h).epoch ++ 0#2 ++ BitVec.ofNat 6 (s.cfg.quotaOf h)

/-! ## Notice words (R179) -/

/-- The code of a notice's kind (R179). -/
def NoticeBody.code : NoticeBody → BitVec 4
  | .attention _ _ => 1#4
  | .repeated _ _ => 2#4
  | .sourceStuck _ => 3#4
  | .forcedRelease _ _ => 4#4
  | .writeFailed _ _ _ _ _ _ => 5#4
  | .readOrphaned _ _ _ => 6#4
  | .configChanged _ _ => 7#4

/-- The code of a forced release's cause (R179). -/
def Cause.code : Cause → BitVec 2
  | .holdExpired => 1#2
  | .routeChanged => 2#2

/-- NOTICE_HEAD0 of a notice: sequence, priority, kind (R179). -/
def Notice.head0 (n : Notice) : Word :=
  n.sequence ++ 0#2 ++ n.priority ++ n.body.code

/-- NOTICE_HEAD1 by kind (R179). -/
def NoticeBody.head1 : NoticeBody → Word
  | .attention n round => 0#9 ++ BitVec.ofNat 3 round ++ 0#1 ++ BitVec.ofNat 3 n.val
  | .repeated n round => 0#9 ++ BitVec.ofNat 3 round ++ 0#1 ++ BitVec.ofNat 3 n.val
  | .sourceStuck n => 0#13 ++ BitVec.ofNat 3 n.val
  | .forcedRelease n cause => 0#6 ++ cause.code ++ 0#5 ++ BitVec.ofNat 3 n.val
  | .writeFailed slot _ width _ _ _ => 0#12 ++ width.bit ++ BitVec.ofNat 3 slot.val
  | .readOrphaned slot _ width => 0#12 ++ width.bit ++ BitVec.ofNat 3 slot.val
  | .configChanged _ writer => 0#2 ++ BitVec.ofNat 2 writer.val ++ 0#12

/-- NOTICE_HEAD2 by kind (R179). -/
def NoticeBody.head2 : NoticeBody → Word
  | .writeFailed _ offset _ _ _ _ => offset
  | .readOrphaned _ offset _ => offset
  | .configChanged generation _ => generation
  | _ => 0#16

/-- NOTICE_HEAD3 by kind (R179). -/
def NoticeBody.head3 : NoticeBody → Word
  | .writeFailed _ _ _ fault partialWrite epoch =>
    0#4 ++ epoch ++ 0#3 ++ BitVec.ofBool partialWrite ++ fault.faultCode.code.extractLsb' 0 4
  | _ => 0#16

/-- Head word `i` of a queue: 0 where the queue is empty, which is kind NONE (R120, R179). -/
def headWord (queue : List Notice) (i : Fin 4) : Word :=
  match queue with
  | [] => 0#16
  | n :: _ =>
    match i with
    | 0 => n.head0
    | 1 => n.body.head1
    | 2 => n.body.head2
    | 3 => n.body.head3

/-! ## Data and parity of a beat (R49, R54, R55) -/

/-- The data a WRITE record keeps: the low eight bits for a BYTE, the word for a WORD (R1 note 2, R167). -/
def keepWidth (w : Width) (data : Word) : Word :=
  match w with
  | .byte => data &&& 0x00FF#16
  | .word => data

/-- The number of ones among the low `n` lanes. -/
def ones (n : Nat) (lanes : Word) : Nat := (List.range n).countP fun i => lanes.getLsbD i

/-- The number of data lanes of a slot: 16 or 8 (R43). -/
def Profile.laneCount (p : Profile) : Nat := if p.wide then 16 else 8

/-- The parity check of a read beat over the slot's data lanes and PPAR (R54). -/
def Profile.parityAgrees (p : Profile) (lanes : Word) (ppar : Bool) : Bool :=
  match p.parity with
  | .none => true
  | .even => (ones p.laneCount lanes + ppar.toNat) % 2 == 0
  | .odd => (ones p.laneCount lanes + ppar.toNat) % 2 == 1

/-- The value of PPAR that the gateway drives on a write beat (R55). -/
def Profile.writeParity (p : Profile) (lanes : Word) : Bool :=
  match p.parity with
  | .none => false
  | .even => ones p.laneCount lanes % 2 == 1
  | .odd => ones p.laneCount lanes % 2 == 0

/-- The offset of the beat in progress (R49, R50). -/
def Operation.beatOffset (op : Operation) : Word := op.plan.getD (op.index - 1) 0#16

/-- The data lanes that the gateway drives on a write beat, absent on a read beat: the byte or word on a 16-bit
slot; on an 8-bit slot the low byte in the first beat and the high byte in the second (R49, R51). -/
def Operation.writeLanes (op : Operation) : Option Word :=
  match op.job.kind with
  | .read => none
  | .write data =>
    some <|
      if op.profile.wide then keepWidth op.job.width data
      else if op.index ≤ 1 then data &&& 0x00FF#16
      else data >>> 8

/-- The bytes that a successful read beat adds to the collected data (R54): PD7 to PD0 at the beat's offset, and on a
16-bit word beat PD15 to PD8 at the next offset. A single BYTE read on a 16-bit slot keeps PD7 to PD0 alone. -/
def Operation.sampledBytes (op : Operation) (lanes : Word) : List (Word × Byte) :=
  let low := (op.beatOffset, lanes.extractLsb' 0 8)
  if op.profile.wide ∧ (op.fillLine.isSome ∨ op.job.width = .word) then
    [low, (op.beatOffset + 1#16, lanes.extractLsb' 8 8)]
  else [low]

/-- The byte collected at an offset. Every operation that ends without a fault on the beats it needs has collected it;
where none was collected the answer is 0. -/
def Operation.byteAt (op : Operation) (offset : Word) : Byte :=
  ((op.collected.find? fun c => c.1 == offset).map (·.2)).getD 0#8

/-- The data of the record from the collected bytes: a byte with the upper eight bits 0, or a word with the byte of
the even offset low (R57, R59, R175). -/
def Operation.readData (op : Operation) : Word :=
  match op.job.width with
  | .byte => 0#8 ++ op.byteAt op.job.offset
  | .word => op.byteAt (op.job.offset + 1#16) ++ op.byteAt op.job.offset

/-- The data that a VALID line delivers to a read (R76). -/
def lineData (data : Vector Byte 16) (offset : Word) : Width → Word
  | .byte => 0#8 ++ data[Fin.ofNat 16 offset.toNat]
  | .word => data[Fin.ofNat 16 (offset.toNat + 1)] ++ data[Fin.ofNat 16 offset.toNat]

end Sys2Proof.Machine
end

