-- ==== Sys2Proof/Machine/Flags.lean ====
section
/-!
DEFINITION. The two flags that other events drive: the notice line NLINEh (R123) and the CONFIG_CHANGED flag of each
host (R115, R139).
-/

namespace Sys2Proof.Machine

/-- NLINEh as R123 gives it: the port is UP and its queue holds a notice whose priority is at or above THRESHOLD. -/
def Port.lineLevel (p : Port) : Bool :=
  p.up && p.queue.any fun n => p.threshold ≤ n.priority

/-- The port with its notice line evaluated afresh (R123). -/
def Port.evalLine (p : Port) : Port := { p with nline := p.lineLevel }

/-- The state with NLINEh evaluated afresh, as part of an event that can change it (R123). -/
def State.evalLine (s : State) (h : HostId) : State := s.modPort h Port.evalLine

/-- An accepted write of host `writer` owes CONFIG_CHANGED to every other host that is UP and in CFG_SUBSCRIBERS as
the item stands in `s`: its flag is set and the writer recorded (R139). -/
def State.oweChanged (s : State) (writer : HostId) : State :=
  s.mapPorts fun h p =>
    if h ≠ writer ∧ p.up ∧ s.cfg.cfgSubscribes h then { p with changed := some writer } else p

end Sys2Proof.Machine
end

