-- ==== Sys2Proof/Machine/Lines.lean ====
section
/-!
DEFINITION. The read-ahead unit (chapter 4): recency, reservation, fill end, the invalidations of writes and profile
changes, hits, and the command LIFETIME_EXPIRY.
-/

namespace Sys2Proof.Machine

/-- Every entry changed by `f`; an entry that is INVALID afterwards leaves the recency order, the others keep their
relative order (R69). -/
def ReadAhead.change (l : ReadAhead) (f : LineEntry → LineEntry) : ReadAhead where
  entries := Vector.ofFn fun e => f l.entries[e]
  recency := l.recency.filter fun e => !(f l.entries[e]).isInvalid

/-- Entry `e` set to a state that is not INVALID and made the most recent (R69). -/
def ReadAhead.place (l : ReadAhead) (e : EntryId) (entry : LineEntry) : ReadAhead where
  entries := l.entries.set e entry
  recency := e :: l.recency.filter fun x => x ≠ e

/-- Entry `e` made INVALID; it leaves the recency order (R69). -/
def ReadAhead.drop (l : ReadAhead) (e : EntryId) : ReadAhead where
  entries := l.entries.set e .invalid
  recency := l.recency.filter fun x => x ≠ e

/-- Entry `e` moved to the most recent place by a hit; its state stays (R69, R76). -/
def ReadAhead.touch (l : ReadAhead) (e : EntryId) : ReadAhead :=
  { l with recency := e :: l.recency.filter fun x => x ≠ e }

/-- What a write admission does to an entry: a VALID entry that overlaps the write becomes INVALID, a FILLING one
becomes poisoned (R74). -/
def LineEntry.afterWrite (slot : SlotId) (base : Word) : LineEntry → LineEntry
  | .valid s b data timer => if s = slot ∧ b = base then .invalid else .valid s b data timer
  | .filling s b poisoned => if s = slot ∧ b = base then .filling s b true else .filling s b poisoned
  | .invalid => .invalid

/-- What an accepted write of a profile word of `slot` does to an entry: every VALID entry of the slot becomes INVALID,
a FILLING one poisoned (R81). -/
def LineEntry.afterProfile (slot : SlotId) : LineEntry → LineEntry
  | .valid s b data timer => if s = slot then .invalid else .valid s b data timer
  | .filling s b poisoned => if s = slot then .filling s b true else .filling s b poisoned
  | .invalid => .invalid

/-- What a tick does to an entry: a VALID entry's lifetime timer is lowered by one (R150). -/
def LineEntry.tick : LineEntry → LineEntry
  | .valid s b data timer => .valid s b data (timer - 1)
  | entry => entry

/-- The read-ahead unit's part of a write admission (R74). -/
def State.invalidateWritten (s : State) (slot : SlotId) (offset : Word) : State :=
  { s with lines := s.lines.change (LineEntry.afterWrite slot (lineBase offset)) }

/-- The read-ahead unit's part of an accepted profile write (R81). -/
def State.invalidateSlot (s : State) (slot : SlotId) : State :=
  { s with lines := s.lines.change (LineEntry.afterProfile slot) }

/-- The entry that a fill reserve chooses: the INVALID entry with the lowest number, else the least recent (R70). Where
the recency order is empty too, which no reachable state shows, entry 0. -/
def ReadAhead.reserveChoice (l : ReadAhead) : EntryId :=
  match allEight.find? fun e => l.entries[e].isInvalid with
  | some e => e
  | none => l.recency.getLast?.getD 0

/-- A fill reserve: the chosen entry becomes FILLING for the line, not poisoned, and the most recent (R70). -/
def State.reserve (s : State) (slot : SlotId) (base : Word) : State :=
  { s with lines := s.lines.place s.lines.reserveChoice (.filling slot base false) }

/-- The data that entry `e` delivers to a read (R76). -/
def State.hitData (s : State) (e : EntryId) (offset : Word) (width : Width) : Word :=
  match s.entry e with
  | .valid _ _ data _ => lineData data offset width
  | _ => 0#16

/-- The recency part of a hit on entry `e` (R76). -/
def State.touchLine (s : State) (e : EntryId) : State :=
  { s with lines := s.lines.touch e }

/-- The entry that is FILLING for a line, if there is one (R72). -/
def State.fillingEntry (s : State) (slot : SlotId) (base : Word) : Option EntryId :=
  allEight.find? fun e => (s.entry e).isFillingFor slot base

/-- The entry is FILLING and poisoned (R67). -/
def LineEntry.isPoisoned : LineEntry → Bool
  | .filling _ _ poisoned => poisoned
  | _ => false

/-- The fill end of the line of `slot` with base `base`, `bytes` present when the line outcome is filled. The FILLING
entry becomes VALID, most recent, with its lifetime timer started at LINE_LIFE, unless the fill was abandoned, the
entry is poisoned, a write is pending into the line, or LINE_LIFE is 0; then it becomes INVALID (R72). -/
def State.fillEnd (s : State) (slot : SlotId) (base : Word) (bytes : Option (Vector Byte 16)) : State :=
  match s.fillingEntry slot base with
  | none => s
  | some e =>
    match bytes with
    | none => { s with lines := s.lines.drop e }
    | some data =>
      if (s.entry e).isPoisoned ∨ s.lineQuery slot base ∨ s.cfg.lineLife = 0#16 then
        { s with lines := s.lines.drop e }
      else
        { s with lines := s.lines.place e (.valid slot base data s.cfg.lineLife.toNat) }

/-- The lifetime expiry of entry `e`: a VALID entry whose timer has reached 0 becomes INVALID (R78). Where no timer of
the entry has run out there is no expiry and nothing changes (R154). -/
def State.lifetimeExpiry (s : State) (e : EntryId) : State :=
  match s.entry e with
  | .valid _ _ _ 0 => { s with lines := s.lines.drop e }
  | _ => s

/-- The entry is VALID with its lifetime timer at 0: its expiry is due (R78, R152). -/
def LineEntry.isDue : LineEntry → Bool
  | .valid _ _ _ timer => timer == 0
  | _ => false

/-- The lines with every due lifetime expiry taken: those entries become INVALID and leave the recency order (R69, R78,
R155). -/
def ReadAhead.expireDue (l : ReadAhead) : ReadAhead where
  entries := Vector.ofFn fun e => if (l.entries[e]).isDue then .invalid else l.entries[e]
  recency := l.recency.filter fun e => !(l.entries[e]).isDue

/-- LIFETIME_EXPIRY (R78). -/
def execLifetimeExpiry (e : EntryId) (s : State) : Host.Outcome State Fault Refusal :=
  .next (s.lifetimeExpiry e)

end Sys2Proof.Machine
end

