-- ==== Sys2Proof/Machine/Pool.lean ====
section
/-!
DEFINITION. The request pool (chapter 1): admission, the ordered check of a slot read, slot writes, cancel, completion,
slot disable, its part of a port reset, and the commands SLOT_READ, SLOT_WRITE, CANCEL_READS and
COLLECTION_TIMER_EXPIRY.
-/

namespace Sys2Proof.Machine

/-! ## Admission (R7) -/

/-- Why an admission for host `h` is refused, if it is: the quota first, then the free places (R7). -/
def State.admissionRefusal (s : State) (h : HostId) : Option RetryReason :=
  if s.cfg.quotaOf h ≤ s.held h then some .quotaFull
  else if Config.poolPlaces ≤ s.pool.length then some .poolFull
  else none

/-- A successful admission: a QUEUED record with the port's present epoch at the tail of the lane (R7). -/
def State.join (s : State) (h : HostId) (job : Job) : State :=
  { s with
    pool := s.pool ++ [{ toJob := job, host := h, epoch := (s.port h).epoch, state := .queued }] }

/-! ## Slot requests (R8 to R12) -/

/-- The answer of a collection (R12). -/
def ReadResult.answer : ReadResult → Answer
  | .data w => .data w
  | .fault f => .fault f.faultCode

/-- Steps 2 to 5 of the ordered check, taken where no record matches the read: alignment, slot off, immediate line
hit, admission (R10, R11). -/
def State.slotReadUnmatched (s : State) (h : HostId) (slot : SlotId) (offset : Word) (width : Width) :
    State × Answer :=
  if width = .word ∧ offset.getLsbD 0 then (s, .fault .align)
  else if ¬ s.cfg.enabled slot then (s, .fault .slotOff)
  else
    match (if s.cfg.prefetchable slot ∧ ¬ s.laneQuery h then s.validEntry slot offset else none) with
    | some e => (s.touchLine e, .data (s.hitData e offset width))
    | none =>
      match s.admissionRefusal h with
      | some reason => (s, .retry reason)
      | none => (s.join h { kind := .read, slot := slot, offset := offset, width := width }, .retry .pending)

/-- The ordered check of a slot read (R10): a matching DONE record is collected and freed (R12), a matching QUEUED or
ON_BUS record answers RETRY(PENDING), and otherwise the later steps decide. -/
def State.slotRead (s : State) (h : HostId) (slot : SlotId) (offset : Word) (width : Width) : State × Answer :=
  match s.matching h slot offset width with
  | some r =>
    match r.state with
    | .done result _ => ({ s with pool := s.pool.eraseP (Record.isMatch h slot offset width) }, result.answer)
    | _ => (s, .retry .pending)
  | none => s.slotReadUnmatched h slot offset width

/-- A slot write: alignment, slot off, admission; an admitted write invalidates or poisons the line it overlaps
before its ACCEPT (R8, R74). -/
def State.slotWrite (s : State) (h : HostId) (slot : SlotId) (offset : Word) (width : Width) (data : Word) :
    State × Answer :=
  if width = .word ∧ offset.getLsbD 0 then (s, .fault .align)
  else if ¬ s.cfg.enabled slot then (s, .fault .slotOff)
  else
    match s.admissionRefusal h with
    | some reason => (s, .retry reason)
    | none =>
      ((s.join h { kind := .write (keepWidth width data), slot := slot, offset := offset, width := width }).invalidateWritten
        slot offset, .accept)

/-! ## Cancel and port reset (R17, R22) -/

/-- What CANCEL_READS of host `h` leaves of a record: QUEUED and DONE reads are freed, the ON_BUS read is marked
abandoned, all else stays (R17). -/
def Record.afterCancel (h : HostId) (r : Record) : Option Record :=
  if r.host = h ∧ ¬ r.isWrite then
    match r.state with
    | .queued => none
    | .done _ _ => none
    | .onBus _ => some { r with state := .onBus true }
    | _ => some r
  else some r

/-- What a port reset of host `h` leaves of a record: as a cancel, and ORPHANED reads are freed too (R22). -/
def Record.afterPortReset (h : HostId) (r : Record) : Option Record :=
  if r.isOrphanedOf h then none else r.afterCancel h

/-- CANCEL_READS of host `h` at the pool (R17). -/
def State.cancelReads (s : State) (h : HostId) : State :=
  { s with pool := s.pool.filterMap (Record.afterCancel h) }

/-! ## Completion (R14, R15, R21) -/

/-- A READ that is not abandoned enters DONE, its collection timer started at COLLECT_LIMIT (R14, R16). -/
def State.doneState (s : State) (result : ReadResult) : RecordState :=
  .done result s.cfg.collectLimit.toNat

/-- What the completion of the operation in flight leaves of a record. An ON_BUS READ enters DONE with `readOutcome`,
or is freed where it is abandoned (R14). An ON_BUS WRITE is freed where it succeeded, or becomes FAILED with
`writeOutcome`'s fault and partial field (R15). -/
def State.afterCompletion (s : State) (readOutcome : ReadResult)
    (writeOutcome : Option (AccessFault × Option Bool)) (r : Record) : Option Record :=
  match r.state with
  | .onBus abandoned =>
    if r.isWrite then
      writeOutcome.map fun w => { r with state := .failed w.1 w.2 }
    else if abandoned then none
    else some { r with state := s.doneState readOutcome }
  | _ => some r

/-- What a slot disable leaves of a record: a QUEUED READ of the slot enters DONE with SLOT_OFF, a QUEUED WRITE becomes
FAILED with SLOT_OFF, its partial field no on an 8-bit slot and absent on a 16-bit slot (R21). -/
def State.afterDisable (s : State) (slot : SlotId) (r : Record) : Record :=
  if r.slot = slot ∧ r.isQueued then
    if r.isWrite then
      { r with state := .failed .slotOff (if s.cfg.wide slot then none else some false) }
    else { r with state := s.doneState (.fault .slotOff) }
  else r

/-- The pool's part of a mode word write that disables a slot, taken with the word already in the set (R21). -/
def State.disableSlot (s : State) (slot : SlotId) : State :=
  { s with pool := s.pool.map (s.afterDisable slot) }

/-! ## Collection timers (R16, R150) -/

/-- What a tick does to a record: a DONE record's collection timer is lowered by one (R150). -/
def Record.tick (r : Record) : Record :=
  match r.state with
  | .done result timer => { r with state := .done result (timer - 1) }
  | _ => r

/-- The record is a DONE read of this key whose collection timer has reached 0. -/
def Record.isExpired (h : HostId) (slot : SlotId) (offset : Word) (width : Width) (r : Record) : Bool :=
  r.isMatch h slot offset width &&
    match r.state with
    | .done _ timer => timer == 0
    | _ => false

/-- The expiry of the collection timer of host `h`'s DONE read of this key: the record becomes ORPHANED (R16). Where no
such timer has run out there is no expiry and nothing changes (R154). -/
def State.collectionExpiry (s : State) (h : HostId) (slot : SlotId) (offset : Word) (width : Width) : State :=
  { s with
    pool := updateFirst (Record.isExpired h slot offset width) (fun r => { r with state := .orphaned }) s.pool }

/-- The record with its collection expiry taken where it is due: a DONE record whose timer stands at 0 becomes ORPHANED
(R16, R152). -/
def Record.expireDue (r : Record) : Record :=
  match r.state with
  | .done _ 0 => { r with state := .orphaned }
  | _ => r

/-! ## Commands -/

/-- SLOT_READ (R10). -/
def execSlotRead (h : HostId) (slot : SlotId) (offset : Word) (width : Width) (s : State) :
    Host.Outcome State Fault Refusal :=
  .next (s.take h fun s => s.slotRead h slot offset width)

/-- SLOT_WRITE (R8). -/
def execSlotWrite (h : HostId) (slot : SlotId) (offset : Word) (width : Width) (data : Word) (s : State) :
    Host.Outcome State Fault Refusal :=
  .next (s.take h fun s => s.slotWrite h slot offset width data)

/-- CANCEL_READS (R17). The value written is ignored. -/
def execCancelReads (h : HostId) (_value : Word) (s : State) : Host.Outcome State Fault Refusal :=
  .next (s.take h fun s => (s.cancelReads h, .accept))

/-- COLLECTION_TIMER_EXPIRY (R16). -/
def execCollectionTimerExpiry (h : HostId) (slot : SlotId) (offset : Word) (width : Width) (s : State) :
    Host.Outcome State Fault Refusal :=
  .next (s.collectionExpiry h slot offset width)

end Sys2Proof.Machine
end

