-- ==== Sys2Proof/Machine/Attention.lean ====
section
/-!
DEFINITION. The attention unit (chapter 5): raises, owed entries, claims, releases, rounds, route changes, its part of
the port events, and the commands CLAIM, RELEASE, REARM, ATTENTION_LINE_ACTIVE, ATTENTION_LINE_INACTIVE,
CLAIM_TIMEOUT and HOLD_TIMEOUT.

A source operation takes the source, its route as it stands in the set (R88), and which ports are UP.
-/

namespace Sys2Proof.Machine

/-! ## Operations on one source -/

/-- The source owes an entry of this kind, with the route's present priority, to every subscriber whose port is UP,
in place of any entry it owed them before (R91). -/
def Source.owe (src : Source) (route : Route) (up : HostId → Bool) (kind : AttentionKind) : Source :=
  { src with
    owed := Vector.ofFn fun h =>
      if route.subscribes h && up h then some { kind := kind, priority := route.priority } else src.owed[h] }

/-- Every owed attention entry of the source is cancelled (R91, R93, R94, R101). -/
def Source.cancelOwed (src : Source) : Source := { src with owed := Vector.replicate 4 none }

/-- The source becomes RAISED with round 0, owes ATTENTION with round 0, and its claim timer starts at the claim
timeout in effect (R93, R97, R106). -/
def Source.raise (src : Source) (route : Route) (up : HostId → Bool) : Source :=
  { src with state := .raised 0 route.claimTimeout }.owe route up (.attention 0)

/-- A release: with the line active and a subscriber the source is raised anew, otherwise it becomes IDLE; the hold
timer goes with the CLAIMED state (R97). A source that leaves STUCK takes the same course (R101). -/
def Source.release (src : Source) (route : Route) (up : HostId → Bool) : Source :=
  if src.line ∧ route.hasSubscriber then src.raise route up else { src with state := .idle }

/-- The line becomes active (R93). -/
def Source.lineActive (src : Source) (route : Route) (up : HostId → Bool) : Source :=
  let src := { src with line := true }
  if src.state = .idle ∧ route.hasSubscriber then src.raise route up else src

/-- The line becomes inactive (R93). -/
def Source.lineInactive (src : Source) : Source :=
  let src := { src with line := false }
  match src.state with
  | .raised _ _ => { src with state := .idle }.cancelOwed
  | _ => src

/-- The result of a claim by host `h` (R94). -/
def Source.claimResult (src : Source) (route : Route) (h : HostId) : ClaimResult :=
  if ¬ route.subscribes h then .notSubscribed
  else
    match src.state with
    | .idle => .notRaised
    | .raised _ _ => .granted
    | .claimed holder _ => if holder = h then .alreadyYours else .heldBy holder
    | .stuck => .stuck

/-- The grant to host `h`: CLAIMED by `h`, the hold timer started where the hold timeout is not 0, every owed
attention entry cancelled (R94, R102). -/
def Source.grant (src : Source) (route : Route) (h : HostId) : Source :=
  { src with state := .claimed h (if route.holdTimeout = 0 then none else some route.holdTimeout) }.cancelOwed

/-- The source is CLAIMED by host `h` (R90). -/
def Source.isHeldBy (src : Source) (h : HostId) : Bool :=
  match src.state with
  | .claimed holder _ => holder == h
  | _ => false

/-- A forced-release entry with its cause is owed to host `h`, in place of an earlier one (R92). -/
def Source.oweForced (src : Source) (h : HostId) (cause : Cause) : Source :=
  { src with forced := src.forced.set h (some cause) }

/-- The claim timeout of a RAISED source whose timer has reached 0: the next round with REPEAT owed and the timer
restarted, or STUCK with SOURCE_STUCK owed where the round reaches the repeat limit (R100). -/
def Source.claimTimeout (src : Source) (route : Route) (up : HostId → Bool) : Source :=
  match src.state with
  | .raised round 0 =>
    if round + 1 < route.repeatLimit then
      { src with state := .raised (round + 1) route.claimTimeout }.owe route up (.repeated (round + 1))
    else { src with state := .stuck }.owe route up .sourceStuck
  | _ => src

/-- The hold timeout of a CLAIMED source whose hold timer has reached 0: FORCED_RELEASE with cause HOLD_EXPIRED is owed
to the holder and the source is released (R103). -/
def Source.holdTimeout (src : Source) (route : Route) (up : HostId → Bool) : Source :=
  match src.state with
  | .claimed holder (some 0) => (src.oweForced holder .holdExpired).release route up
  | _ => src

/-- The source with its claim or hold timeout taken where it is due; at most one of the two acts, since no source is both
RAISED and CLAIMED and a claim timeout leaves none CLAIMED (R100, R103, R152). -/
def Source.expireDue (src : Source) (route : Route) (up : HostId → Bool) : Source :=
  (src.claimTimeout route up).holdTimeout route up

/-- A rearm by a subscriber: a STUCK source has its owed entries cancelled and leaves STUCK as a release does; in
another state nothing changes (R101). -/
def Source.rearm (src : Source) (route : Route) (up : HostId → Bool) : Source :=
  match src.state with
  | .stuck => src.cancelOwed.release route up
  | _ => src

/-- What a tick does to a source: its claim timer or hold timer is lowered by one (R150). -/
def Source.tick (src : Source) : Source :=
  match src.state with
  | .raised round timer => { src with state := .raised round (timer - 1) }
  | .claimed holder (some timer) => { src with state := .claimed holder (some (timer - 1)) }
  | _ => src

/-! ## Route change (R104 to R106) -/

/-- The removals of a route change from `old` to `new`: the owed entries of the hosts removed are cancelled, and a
holder removed is owed FORCED_RELEASE with cause ROUTE_CHANGED and the source released by the new set (R104). -/
def Source.removeSubscribers (src : Source) (old new : Route) (up : HostId → Bool) : Source :=
  let removed := fun h => old.subscribes h && !new.subscribes h
  let src := { src with owed := Vector.ofFn fun h => if removed h then none else src.owed[h] }
  match src.state with
  | .claimed holder _ =>
    if removed holder then (src.oweForced holder .routeChanged).release new up else src
  | _ => src

/-- A RAISED or STUCK source left without a subscriber becomes IDLE (R105). -/
def Source.idleIfEmpty (src : Source) (new : Route) : Source :=
  if new.hasSubscriber then src
  else
    match src.state with
    | .raised _ _ => { src with state := .idle }
    | .stuck => { src with state := .idle }
    | _ => src

/-- What an added host is owed by a RAISED or STUCK source: ATTENTION for round 0, REPEAT for a later round, or
SOURCE_STUCK (R106, R108). -/
def Source.catchUpKind (src : Source) : Option AttentionKind :=
  match src.state with
  | .raised 0 _ => some (.attention 0)
  | .raised (round + 1) _ => some (.repeated (round + 1))
  | .stuck => some .sourceStuck
  | _ => none

/-- The additions of a route change: an IDLE source with its line active and no subscriber before is raised; a RAISED
or STUCK source owes each added host that is UP the entry for its state (R106). -/
def Source.addSubscribers (src : Source) (old new : Route) (up : HostId → Bool) : Source :=
  if src.state = .idle then
    if src.line ∧ ¬ old.hasSubscriber ∧ new.hasSubscriber then src.raise new up else src
  else
    match src.catchUpKind with
    | none => src
    | some kind =>
      { src with
        owed := Vector.ofFn fun h =>
          if !old.subscribes h && new.subscribes h && up h then some { kind := kind, priority := new.priority }
          else src.owed[h] }

/-- The route change of a source: nothing where the subscriber set stays as it was (R143), otherwise the removals, the
empty set and the additions in turn (R104 to R106). -/
def Source.routeChange (src : Source) (old new : Route) (up : HostId → Bool) : Source :=
  if old.subscribers = new.subscribers then src
  else ((src.removeSubscribers old new up).idleIfEmpty new).addSubscribers old new up

/-! ## Port events (R107, R108) -/

/-- The source's part of the port reset of host `h`, taken with `h` already DOWN: a claim of `h` is released with no
entry owed to `h`, and `h`'s owed and forced-release entries are dropped (R107). -/
def Source.portReset (src : Source) (route : Route) (up : HostId → Bool) (h : HostId) : Source :=
  let src := if src.isHeldBy h then src.release route up else src
  { src with owed := src.owed.set h none, forced := src.forced.set h none }

/-- The source's part of the return to UP of host `h`: a subscriber is owed the entry that describes a RAISED or STUCK
source (R108). -/
def Source.portReturn (src : Source) (route : Route) (h : HostId) : Source :=
  match src.catchUpKind with
  | none => src
  | some kind =>
    if route.subscribes h then
      { src with owed := src.owed.set h (some { kind := kind, priority := route.priority }) }
    else src

/-! ## Operations on the state -/

/-- The ports that are UP (R161). -/
def State.upSet (s : State) : HostId → Bool := fun h => (s.port h).up

/-- A claim of source `n` by host `h` (R94). -/
def State.claim (s : State) (h : HostId) (n : SourceId) : State × Answer :=
  let result := (s.source n).claimResult (s.cfg.route n) h
  (if result = .granted then s.modSource n fun src => src.grant (s.cfg.route n) h else s, .data result.word)

/-- The source that a written value names: 0 to 7 name A0 to A7, any other value none (R96, R101, R176). -/
def sourceNamed (value : Word) : Option SourceId :=
  if value < 8#16 then some (Fin.ofNat 8 value.toNat) else none

/-- A release by host `h` (R96). -/
def State.release (s : State) (h : HostId) (value : Word) : State × Answer :=
  match sourceNamed value with
  | none => (s, .fault .badValue)
  | some n =>
    if (s.source n).isHeldBy h then
      (s.modSource n fun src => src.release (s.cfg.route n) s.upSet, .accept)
    else (s, .fault .notHolder)

/-- A rearm by host `h` (R101). -/
def State.rearm (s : State) (h : HostId) (value : Word) : State × Answer :=
  match sourceNamed value with
  | none => (s, .fault .badValue)
  | some n =>
    if ¬ (s.cfg.route n).subscribes h then (s, .fault .notSubscribed)
    else (s.modSource n fun src => src.rearm (s.cfg.route n) s.upSet, .accept)

/-- The level of PATNn becomes `level`. While GRST is asserted the unit does not act on it (R109); a level that the
line already has is no change (R93). -/
def State.attentionLine (s : State) (n : SourceId) (level : Bool) : State :=
  if s.patn[n] = level then s
  else
    let s := { s with patn := s.patn.set n level }
    if s.grst then s
    else if level then s.modSource n fun src => src.lineActive (s.cfg.route n) s.upSet
    else s.modSource n Source.lineInactive

/-- The claim timeout of source `n` (R100). -/
def State.claimTimeout (s : State) (n : SourceId) : State :=
  s.modSource n fun src => src.claimTimeout (s.cfg.route n) s.upSet

/-- The hold timeout of source `n` (R103). -/
def State.holdTimeout (s : State) (n : SourceId) : State :=
  s.modSource n fun src => src.holdTimeout (s.cfg.route n) s.upSet

/-! ## Commands -/

/-- CLAIM (R94). -/
def execClaim (h : HostId) (n : SourceId) (s : State) : Host.Outcome State Fault Refusal :=
  .next (s.take h fun s => s.claim h n)

/-- RELEASE (R96). -/
def execRelease (h : HostId) (value : Word) (s : State) : Host.Outcome State Fault Refusal :=
  .next (s.take h fun s => s.release h value)

/-- REARM (R101). -/
def execRearm (h : HostId) (value : Word) (s : State) : Host.Outcome State Fault Refusal :=
  .next (s.take h fun s => s.rearm h value)

/-- ATTENTION_LINE_ACTIVE (R93). -/
def execAttentionLineActive (n : SourceId) (s : State) : Host.Outcome State Fault Refusal :=
  .next (s.attentionLine n true)

/-- ATTENTION_LINE_INACTIVE (R93). -/
def execAttentionLineInactive (n : SourceId) (s : State) : Host.Outcome State Fault Refusal :=
  .next (s.attentionLine n false)

/-- CLAIM_TIMEOUT (R100). -/
def execClaimTimeout (n : SourceId) (s : State) : Host.Outcome State Fault Refusal :=
  .next (s.claimTimeout n)

/-- HOLD_TIMEOUT (R103). -/
def execHoldTimeout (n : SourceId) (s : State) : Host.Outcome State Fault Refusal :=
  .next (s.holdTimeout n)

end Sys2Proof.Machine
end

