-- ==== Sys2Proof/Machine/Notices.lean ====
section
/-!
DEFINITION. The notice unit (chapter 6): the queue, the owed-delivery arbiter, placement, and the commands NOTICE_POP,
THRESHOLD and PLACEMENT_PASS.
-/

namespace Sys2Proof.Machine

/-! ## The queue (R113) -/

/-- A notice inserted behind every notice of equal or higher priority and ahead of every notice of lower priority
(R113). -/
def insertNotice (n : Notice) : List Notice → List Notice
  | [] => [n]
  | m :: rest => if m.priority < n.priority then n :: m :: rest else m :: insertNotice n rest

/-! ## Waiting deliveries (R115, R117) -/

/-- A delivery that waits for a host (R115). -/
inductive Delivery
  | failed (r : Record)
  | orphaned (r : Record)
  | forced (n : SourceId) (cause : Cause)
  | owed (n : SourceId) (entry : OwedEntry)
  | changed (writer : HostId)
  deriving DecidableEq, Repr

/-- The first forced-release entry owed to host `h`, by source number (R117). -/
def State.forcedDelivery (s : State) (h : HostId) : Option Delivery :=
  allEight.findSome? fun n => (s.source n).forced[h].map (Delivery.forced n)

/-- The owed attention entry of source `n` for host `h`, where it has this priority. -/
def Source.owedAt (src : Source) (h : HostId) (priority : BitVec 2) : Option OwedEntry :=
  src.owed[h].filter fun e => e.priority == priority

/-- The owed attention entry for host `h` of the highest priority and, within it, the lowest source number (R117). -/
def State.owedDelivery (s : State) (h : HostId) : Option Delivery :=
  [3#2, 2#2, 1#2, 0#2].findSome? fun p =>
    allEight.findSome? fun n => ((s.source n).owedAt h p).map (Delivery.owed n)

/-- The next delivery to place for host `h`, by the classes of R117. -/
def State.nextDelivery (s : State) (h : HostId) : Option Delivery :=
  ((s.pool.find? (Record.isFailedOf h)).map Delivery.failed).or <|
    ((s.pool.find? (Record.isOrphanedOf h)).map Delivery.orphaned).or <|
      (s.forcedDelivery h).or <| (s.owedDelivery h).or <| (s.port h).changed.map Delivery.changed

/-! ## Placement (R117, R118) -/

/-- The priority of the notice placed from a delivery (R112, R118). -/
def Delivery.priority : Delivery → BitVec 2
  | .failed _ => 3
  | .orphaned _ => 2
  | .forced _ _ => 2
  | .owed _ entry => entry.priority
  | .changed _ => 1

/-- The notice of an owed attention entry of source `n` (R118). -/
def AttentionKind.body (n : SourceId) : AttentionKind → NoticeBody
  | .attention round => .attention n round
  | .repeated round => .repeated n round
  | .sourceStuck => .sourceStuck n

/-- The fault that a record in FAILED holds; SLOT_OFF stands for a record in another state, which no FAILED delivery
is. -/
def Record.failedFault (r : Record) : AccessFault :=
  match r.state with
  | .failed fault _ => fault
  | _ => .slotOff

/-- The partial field of a FAILED record as its notice carries it: no where the field is absent (R18, R118). -/
def Record.failedPartial (r : Record) : Bool :=
  match r.state with
  | .failed _ (some b) => b
  | _ => false

/-- The kind and fields of the notice placed from a delivery, the generation as it stands at the placement (R118). -/
def Delivery.body (d : Delivery) (generation : Word) : NoticeBody :=
  match d with
  | .failed r => .writeFailed r.slot r.offset r.width r.failedFault r.failedPartial r.epoch
  | .orphaned r => .readOrphaned r.slot r.offset r.width
  | .forced n cause => .forcedRelease n cause
  | .owed n entry => entry.kind.body n
  | .changed writer => .configChanged generation writer

/-- The end of a delivery's waiting in its owner (R117). -/
def State.endWaiting (s : State) (h : HostId) : Delivery → State
  | .failed _ => { s with pool := s.pool.eraseP (Record.isFailedOf h) }
  | .orphaned _ => { s with pool := s.pool.eraseP (Record.isOrphanedOf h) }
  | .forced n _ => s.modSource n fun src => { src with forced := src.forced.set h none }
  | .owed n _ => s.modSource n fun src => { src with owed := src.owed.set h none }
  | .changed _ => s.modPort h fun p => { p with changed := none }

/-- The notice placed in the port's queue with the counter's value, the counter raised by one, the notice line
evaluated (R113, R114, R123). -/
def Port.placeNotice (p : Port) (priority : BitVec 2) (body : NoticeBody) : Port :=
  { p with
    queue := insertNotice { sequence := p.sequence, priority := priority, body := body } p.queue
    sequence := p.sequence + 1 }.evalLine

/-- The placement of one delivery for host `h` (R117, R118). -/
def State.placeDelivery (s : State) (h : HostId) (d : Delivery) : State :=
  (s.endWaiting h d).modPort h fun p => p.placeNotice d.priority (d.body s.cfg.generation)

/-- At most `room` placements for host `h`, one after another, until no delivery waits (R116). -/
def State.placeUpTo (s : State) (h : HostId) : Nat → State
  | 0 => s
  | room + 1 =>
    match s.nextDelivery h with
    | none => s
    | some d => (s.placeDelivery h d).placeUpTo h room

/-- A placement pass for host `h`: while the port is UP, deliveries are placed until the queue holds 8 notices or none
waits (R116). Where the port is DOWN no pass is taken. -/
def State.placementPass (s : State) (h : HostId) : State :=
  if (s.port h).up then s.placeUpTo h (Config.queuePlaces - (s.port h).queue.length) else s

/-! ## Pop and THRESHOLD (R121, R122) -/

/-- A pop of host `h`'s queue (R121). -/
def State.pop (s : State) (h : HostId) : State × Answer :=
  match (s.port h).queue with
  | [] => (s, .fault .queueEmpty)
  | _ :: rest => (s.modPort h fun p => { p with queue := rest }.evalLine, .accept)

/-- A write of THRESHOLD: the whole word, 1 to 3 accepted (R122, R176). -/
def State.writeThreshold (s : State) (h : HostId) (value : Word) : State × Answer :=
  if value = 0#16 ∨ 3#16 < value then (s, .fault .badValue)
  else (s.modPort h fun p => { p with threshold := value.extractLsb' 0 2 }.evalLine, .accept)

/-! ## Commands -/

/-- NOTICE_POP (R121). The value written is ignored. -/
def execNoticePop (h : HostId) (_value : Word) (s : State) : Host.Outcome State Fault Refusal :=
  .next (s.take h fun s => s.pop h)

/-- THRESHOLD (R122). -/
def execThreshold (h : HostId) (value : Word) (s : State) : Host.Outcome State Fault Refusal :=
  .next (s.take h fun s => s.writeThreshold h value)

/-- PLACEMENT_PASS (R116). -/
def execPlacementPass (h : HostId) (s : State) : Host.Outcome State Fault Refusal :=
  .next (s.placementPass h)

end Sys2Proof.Machine
end

