-- ==== Sys2Proof/Machine/ConfigUnit.lean ====
section
/-!
DEFINITION. The configuration unit (chapter 7): items and indexes, legal values, reads, accepted writes and their
effects, and the commands CFG_DATA_WRITE and CFG_CDATA_WRITE.
-/

namespace Sys2Proof.Machine

/-- The items of the configuration set (R128). -/
inductive Item
  | tickDiv
  | collectLimit
  | lineLife
  | arbQuantum
  | quota (h : HostId)
  | subscribers
  | mode (slot : SlotId)
  | timingA (slot : SlotId)
  | timingB (slot : SlotId)
  | routeA (n : SourceId)
  | routeB (n : SourceId)
  deriving DecidableEq, Repr

/-- The item of a slot group's word `k` of slot `slot`; the fourth word is unmapped (R128). -/
def slotItem (slot : SlotId) (k : Nat) : Option Item :=
  match k with
  | 0 => some (.mode slot)
  | 1 => some (.timingA slot)
  | 2 => some (.timingB slot)
  | _ => none

/-- The item that an index names, `none` where the index is unmapped (R128). -/
def itemAt (index : Word) : Option Item :=
  let i := index.toNat
  if i = 0 then some .tickDiv
  else if i = 1 then some .collectLimit
  else if i = 2 then some .lineLife
  else if i = 3 then some .arbQuantum
  else if i < 8 then some (.quota (Fin.ofNat 4 (i - 4)))
  else if i = 8 then some .subscribers
  else if i < 0x10 then none
  else if i < 0x30 then slotItem (Fin.ofNat 8 ((i - 0x10) / 4)) ((i - 0x10) % 4)
  else if i < 0x40 then
    some (if i % 2 = 0 then .routeA (Fin.ofNat 8 ((i - 0x30) / 2)) else .routeB (Fin.ofNat 8 ((i - 0x30) / 2)))
  else none

/-- The word that an item holds (R131). -/
def ConfigSet.read (c : ConfigSet) : Item → Word
  | .tickDiv => c.tickDiv
  | .collectLimit => c.collectLimit
  | .lineLife => c.lineLife
  | .arbQuantum => c.arbQuantum
  | .quota h => c.quota[h]
  | .subscribers => c.subscribers
  | .mode slot => c.mode[slot]
  | .timingA slot => c.timingA[slot]
  | .timingB slot => c.timingB[slot]
  | .routeA n => c.routeA[n]
  | .routeB n => c.routeB[n]

/-- The set with an item at a new word (R135). -/
def ConfigSet.store (c : ConfigSet) (v : Word) : Item → ConfigSet
  | .tickDiv => { c with tickDiv := v }
  | .collectLimit => { c with collectLimit := v }
  | .lineLife => { c with lineLife := v }
  | .arbQuantum => { c with arbQuantum := v }
  | .quota h => { c with quota := c.quota.set h v }
  | .subscribers => { c with subscribers := v }
  | .mode slot => { c with mode := c.mode.set slot v }
  | .timingA slot => { c with timingA := c.timingA.set slot v }
  | .timingB slot => { c with timingB := c.timingB.set slot v }
  | .routeA n => { c with routeA := c.routeA.set n v }
  | .routeB n => { c with routeB := c.routeB.set n v }

/-- The bits of an item's word that belong to no field and must be 0 (R180, R181). -/
def Item.zeroBits : Item → Word
  | .tickDiv | .collectLimit | .routeB _ => 0x0000#16
  | .lineLife => 0xFF00#16
  | .arbQuantum => 0xFFFC#16
  | .quota _ => 0xFFC0#16
  | .subscribers => 0xFFF0#16
  | .mode _ => 0xFFC8#16
  | .timingA _ => 0xC0F0#16
  | .timingB _ => 0x00C0#16
  | .routeA _ => 0xF8C0#16

/-- Every field of the value lies in its range and holds no reserved encoding (R128, R129). -/
def Item.fieldsInRange (v : Word) : Item → Bool
  | .tickDiv | .collectLimit => v != 0#16
  | .lineLife | .arbQuantum | .subscribers | .timingB _ => true
  | .quota _ => decide (1 ≤ field v 0 6 ∧ field v 0 6 ≤ 32)
  | .mode _ => decide (field v 4 2 ≠ 3)
  | .timingA _ => decide (1 ≤ field v 0 4 ∧ 1 ≤ field v 8 6)
  | .routeA _ => decide (1 ≤ field v 8 3)
  | .routeB _ => decide (1 ≤ field v 0 8)

/-- The value is legal for the item (R129). -/
def Item.legal (item : Item) (v : Word) : Bool :=
  v &&& item.zeroBits == 0#16 && item.fieldsInRange v

/-! ## Effects of an accepted write (R141 to R143) -/

/-- The part of the blocks informed by an accepted write, with the new word already in the set: a profile word clears
the slot's lines (R81) and a mode word with enable no completes the slot's QUEUED records (R21); a route word A is a
route change from the route `old` (R143). The other items act at later events (R141). -/
def State.inform (s : State) (old : ConfigSet) : Item → State
  | .mode slot =>
    let s := s.invalidateSlot slot
    if s.cfg.enabled slot then s else s.disableSlot slot
  | .timingA slot => s.invalidateSlot slot
  | .timingB slot => s.invalidateSlot slot
  | .routeA n => s.modSource n fun src => src.routeChange (old.route n) (s.cfg.route n) s.upSet
  | .routeB _ | .tickDiv | .collectLimit | .lineLife | .arbQuantum | .quota _ | .subscribers => s

/-- An accepted write of `item` by host `h` (R135): CONFIG_CHANGED owed by the subscribers as they stood (R139), the
item stored, the generation raised by one (R136), the acting block informed. -/
def State.acceptWrite (s : State) (h : HostId) (item : Item) (v : Word) : State :=
  let owing := s.oweChanged h
  let stored := s.cfg.store v item
  { owing with cfg := { stored with generation := s.cfg.generation + 1#16 } }.inform s.cfg item

/-- A write of CFG_DATA by host `h` (R132). -/
def State.cfgDataWrite (s : State) (h : HostId) (v : Word) : State × Answer :=
  match itemAt (s.port h).cfgIndex with
  | none => (s, .fault .badAddress)
  | some item => if item.legal v then (s.acceptWrite h item v, .accept) else (s, .fault .badValue)

/-- A write of CFG_CDATA by host `h` (R133). -/
def State.cfgCdataWrite (s : State) (h : HostId) (v : Word) : State × Answer :=
  match itemAt (s.port h).cfgIndex with
  | none => (s, .fault .badAddress)
  | some item =>
    if ¬ item.legal v then (s, .fault .badValue)
    else if (s.port h).cfgExpect ≠ s.cfg.generation then (s, .fault .staleGeneration)
    else (s.acceptWrite h item v, .accept)

/-- A read of CFG_DATA by host `h` (R131). -/
def State.cfgDataRead (s : State) (h : HostId) : Answer :=
  match itemAt (s.port h).cfgIndex with
  | none => .fault .badAddress
  | some item => .data (s.cfg.read item)

/-! ## Commands -/

/-- CFG_DATA_WRITE (R132). -/
def execCfgDataWrite (h : HostId) (value : Word) (s : State) : Host.Outcome State Fault Refusal :=
  .next (s.take h fun s => s.cfgDataWrite h value)

/-- CFG_CDATA_WRITE (R133). -/
def execCfgCdataWrite (h : HostId) (value : Word) (s : State) : Host.Outcome State Fault Refusal :=
  .next (s.take h fun s => s.cfgCdataWrite h value)

end Sys2Proof.Machine
end

