-- ==== Sys2Proof/Machine/Sequencer.lean ====
section
/-!
DEFINITION. The transfer arbiter (chapter 2) and the bus sequencer (chapter 3): selection, line completion, issue, the
phases of a beat, the completion of an operation, and their commands.
-/

namespace Sys2Proof.Machine

/-! ## Transfer arbiter (R31 to R35) -/

/-- Host `h` is eligible: its lane holds a QUEUED record (R31). -/
def State.eligible (s : State) (h : HostId) : Bool := s.pool.any (Record.isQueuedOf h)

/-- The hosts in the order a pass of the grant looks through them (R33). -/
def passOrder : Option HostId → List HostId
  | none => [0, 1, 2, 3]
  | some g => [g + 1, g + 2, g + 3, g]

/-- The grant holder and quantum remaining that a selection goes on with: the present ones where the holder is
eligible and has quantum left, else the first eligible host in the pass order with a reload (R33, R34). -/
def State.grant (s : State) : Option (HostId × Nat) :=
  let pass := ((passOrder s.arbiter.holder).find? s.eligible).map fun h => (h, s.cfg.quantum)
  match s.arbiter.holder with
  | some g => if s.eligible g ∧ 1 ≤ s.arbiter.quantum then some (g, s.arbiter.quantum) else pass
  | none => pass

/-! ## Issue (R47 to R50) -/

/-- The operation issued for a job is a fill (R48). -/
def State.isFill (s : State) (job : Job) : Bool :=
  !job.isWrite && s.cfg.prefetchable job.slot && s.cfg.lineLife != 0#16 &&
    (s.validEntry job.slot job.offset).isNone && !s.lineQuery job.slot (lineBase job.offset)

/-- The beat plan of a single access (R49). -/
def accessPlan (wide : Bool) (job : Job) : List Word :=
  if ¬ wide ∧ job.width = .word then [job.offset, job.offset + 1#16] else [job.offset]

/-- The beat plan of a fill: every beat of the line once, the critical beats first, wrapping at the line's end (R50). -/
def fillPlan (wide : Bool) (job : Job) : List Word :=
  if wide then
    (List.range 8).map fun i =>
      lineBase job.offset + (((job.offset &&& 0x000E#16) + BitVec.ofNat 16 (2 * i)) &&& 0x000F#16)
  else
    (List.range 16).map fun i => lineBase job.offset + ((job.offset + BitVec.ofNat 16 i) &&& 0x000F#16)

/-- The pins at the start of a beat: select, address, direction and, on a write beat, data and parity (R51, R55). -/
def State.driveBeat (s : State) (op : Operation) : BusPins :=
  { s.bus with
    psel := some op.job.slot
    pstb := false
    pa := op.beatOffset
    pwr := op.job.isWrite
    pd := op.writeLanes
    ppar := op.writeLanes.map op.profile.writeParity }

/-- The beat that `op.index` names begins in SETUP (R51). -/
def State.beginBeat (s : State) (op : Operation) : State :=
  let op := { op with phase := .setup, phaseClocks := 0 }
  { s with sequencer := some op, bus := s.driveBeat op }

/-- The operation that an issue starts for a job (R47). -/
def State.issuedOperation (s : State) (job : Job) : Operation :=
  let profile := s.cfg.profile job.slot
  let fill := s.isFill job
  { job := job
    profile := profile
    fillLine := if fill then some (job.slot, lineBase job.offset) else none
    plan := if fill then fillPlan profile.wide job else accessPlan profile.wide job
    index := 1
    phase := .setup
    phaseClocks := 0
    collected := []
    endingFault := none }

/-- The issue of a job: for a fill an entry is reserved; the first beat begins in SETUP (R47). -/
def State.issue (s : State) (job : Job) : State :=
  let op := s.issuedOperation job
  (if s.isFill job then s.reserve job.slot (lineBase job.offset) else s).beginBeat op

/-! ## Selection (R32 to R36) -/

/-- The state of host `h`'s oldest QUEUED record becomes `st`. -/
def State.setOldestQueued (s : State) (h : HostId) (st : RecordState) : State :=
  { s with pool := updateFirst (Record.isQueuedOf h) (fun r => { r with state := st }) s.pool }

/-- The VALID entry from which a selection completes the job: a READ of a prefetchable slot that a VALID line covers
(R36). -/
def State.completingEntry (s : State) (job : Job) : Option EntryId :=
  if ¬ job.isWrite ∧ s.cfg.prefetchable job.slot then s.validEntry job.slot job.offset else none

/-- The holder's oldest QUEUED record is taken: completed from a line (R36), or made ON_BUS and issued (R47). -/
def State.takeRecord (s : State) (h : HostId) (r : Record) : State :=
  match s.completingEntry r.toJob with
  | some e => (s.setOldestQueued h (s.doneState (.data (s.hitData e r.offset r.width)))).touchLine e
  | none => (s.setOldestQueued h (.onBus false)).issue r.toJob

/-- A selection: taken while the sequencer is IDLE and a record is QUEUED, it decides the grant, lowers the quantum by
one and takes the holder's oldest QUEUED record (R32 to R35). In any other state no selection is taken. -/
def State.selection (s : State) : State :=
  if s.sequencer.isSome then s
  else
    match s.grant with
    | none => s
    | some (h, quantum) =>
      match s.pool.find? (Record.isQueuedOf h) with
      | none => s
      | some r => { s with arbiter := { holder := some h, quantum := quantum - 1 } }.takeRecord h r

/-! ## The beat (R51 to R56) -/

/-- The P-bus at the start of RECOVERY: PSTB and PSEL deasserted, PD and PPAR not driven, PA and PWR kept (R56). -/
def BusPins.release (b : BusPins) : BusPins :=
  { b with psel := none, pstb := false, pd := none, ppar := none }

/-- The strobe of the beat ends and RECOVERY begins, with the beat's fault if it has one (R52, R53, R56). -/
def State.enterRecovery (s : State) (op : Operation) (fault : Option AccessFault) : State :=
  { s with
    sequencer := some
      { op with phase := .recovery, phaseClocks := 0, endingFault := fault.map fun f => (f, op.index) }
    bus := s.bus.release }

/-- The beat's transfer is taken: a write beat succeeds (R55); a read beat is sampled and succeeds, its bytes added to
the collected data, or ends BUS_PARITY (R54). -/
def State.takeTransfer (s : State) (op : Operation) (lanes : Word) (ppar : Bool) : State :=
  if op.job.isWrite then s.enterRecovery op none
  else if op.profile.parityAgrees lanes ppar then
    s.enterRecovery { op with collected := op.collected ++ op.sampledBytes lanes } none
  else s.enterRecovery op (some .busParity)

/-- The end of SETUP: PSTB is asserted and the beat enters STROBE; a decline already asserted is acted on at that
moment (R51, R53). -/
def State.setupEnd (s : State) (pdcl : Bool) : State :=
  match s.sequencer with
  | some op =>
    if op.phase = .setup then
      if pdcl then s.enterRecovery op (some .busDeclined)
      else
        { s with
          sequencer := some { op with phase := .strobe, phaseClocks := 0 }
          bus := { s.bus with pstb := true } }
    else s
  | none => s

/-- The end of the strobe period: with ready limit 0, or with PRDY given already, the transfer is taken; otherwise the
beat enters READY_WAIT (R52). -/
def State.strobePeriodEnd (s : State) (prdy : Bool) (lanes : Word) (ppar : Bool) : State :=
  match s.sequencer with
  | some op =>
    if op.phase = .strobe then
      if op.profile.readyLimit = 0 ∨ prdy then s.takeTransfer op lanes ppar
      else { s with sequencer := some { op with phase := .readyWait, phaseClocks := 0 } }
    else s
  | none => s

/-- PRDY given in READY_WAIT takes the transfer (R52); in another phase it is not acted on. -/
def State.ready (s : State) (lanes : Word) (ppar : Bool) : State :=
  match s.sequencer with
  | some op => if op.phase = .readyWait then s.takeTransfer op lanes ppar else s
  | none => s

/-- PDCL asserted while PSTB is asserted ends the beat BUS_DECLINED (R53); otherwise it is not acted on. -/
def State.decline (s : State) : State :=
  match s.sequencer with
  | some op =>
    if op.phase = .strobe ∨ op.phase = .readyWait then s.enterRecovery op (some .busDeclined) else s
  | none => s

/-- The ready-limit expiry ends the beat BUS_TIMEOUT (R52). -/
def State.readyLimitExpiry (s : State) : State :=
  match s.sequencer with
  | some op => if op.phase = .readyWait then s.enterRecovery op (some .busTimeout) else s
  | none => s

/-- The operation ends with the beat in progress: the beat faulted, or it is the last of the plan (R56). -/
def Operation.lastBeat (op : Operation) : Bool :=
  op.endingFault.isSome || decide (op.plan.length ≤ op.index)

/-- The end of RECOVERY after a successful beat with a further beat planned: the next beat begins (R56). -/
def State.recoveryEnd (s : State) : State :=
  match s.sequencer with
  | some op =>
    if op.phase = .recovery ∧ ¬ op.lastBeat then s.beginBeat { op with index := op.index + 1 } else s
  | none => s

/-! ## Completion (R57 to R62) -/

/-- The number of critical beats of a fill: 2 for a WORD on an 8-bit slot, else 1 (R50). -/
def Operation.criticalBeats (op : Operation) : Nat :=
  if ¬ op.profile.wide ∧ op.job.width = .word then 2 else 1

/-- The outcome of a READ: its data, or the ending fault; a fault of a fill on a beat after the critical beats leaves
the data (R57, R59 to R61). -/
def Operation.readOutcome (op : Operation) : ReadResult :=
  match op.endingFault with
  | none => .data op.readData
  | some (fault, beat) =>
    if op.fillLine.isSome ∧ op.criticalBeats < beat then .data op.readData else .fault fault

/-- The outcome of a WRITE: success, or the fault with the partial field: absent on a 16-bit slot, yes where the second
beat of a WORD faulted on an 8-bit slot, else no (R15, R58). -/
def Operation.writeOutcome (op : Operation) : Option (AccessFault × Option Bool) :=
  op.endingFault.map fun f =>
    (f.1, if op.profile.wide then none else some (decide (op.job.width = .word ∧ f.2 = 2)))

/-- The 16 bytes of a filled line, absent where the fill was abandoned (R59 to R61). -/
def Operation.filledBytes (op : Operation) (base : Word) : Option (Vector Byte 16) :=
  if op.endingFault.isSome then none
  else some (Vector.ofFn fun i : Fin 16 => op.byteAt (base + BitVec.ofNat 16 i.val))

/-- The pool's part of a completion (R14, R15). -/
def State.completeRecord (s : State) (op : Operation) : State :=
  { s with pool := s.pool.filterMap (s.afterCompletion op.readOutcome op.writeOutcome) }

/-- The read-ahead unit's part of a completion: the fill end of the operation's fill line, if it has one (R62, R72). -/
def State.completeFill (s : State) (op : Operation) : State :=
  match op.fillLine with
  | none => s
  | some (slot, base) => s.fillEnd slot base (op.filledBytes base)

/-- The completion of the operation in flight, at the end of the recovery of its last beat: the outcome goes to the
pool, the fill end to the read-ahead unit, and the sequencer returns to IDLE (R62). -/
def State.completion (s : State) : State :=
  match s.sequencer with
  | some op =>
    if op.phase = .recovery ∧ op.lastBeat then
      { (s.completeRecord op).completeFill op with sequencer := none }
    else s
  | none => s

/-! ## Commands -/

/-- SELECTION (R33). -/
def execSelection (s : State) : Host.Outcome State Fault Refusal := .next s.selection

/-- SETUP_END (R51). -/
def execSetupEnd (pdcl : Bool) (s : State) : Host.Outcome State Fault Refusal := .next (s.setupEnd pdcl)

/-- STROBE_PERIOD_END (R52). -/
def execStrobePeriodEnd (prdy : Bool) (lanes : Word) (ppar : Bool) (s : State) :
    Host.Outcome State Fault Refusal :=
  .next (s.strobePeriodEnd prdy lanes ppar)

/-- READY (R52). -/
def execReady (lanes : Word) (ppar : Bool) (s : State) : Host.Outcome State Fault Refusal :=
  .next (s.ready lanes ppar)

/-- DECLINE (R53). -/
def execDecline (s : State) : Host.Outcome State Fault Refusal := .next s.decline

/-- READY_LIMIT_EXPIRY (R52). -/
def execReadyLimitExpiry (s : State) : Host.Outcome State Fault Refusal := .next s.readyLimitExpiry

/-- RECOVERY_END (R56). -/
def execRecoveryEnd (s : State) : Host.Outcome State Fault Refusal := .next s.recoveryEnd

/-- COMPLETION (R62). -/
def execCompletion (s : State) : Host.Outcome State Fault Refusal := .next s.completion

end Sys2Proof.Machine
end

