-- ==== Sys2Proof/Machine/Timers.lean ====
section
/-!
DEFINITION. The timebase (chapter 8): the tick event, the bus clock that passes while no command waits, and the command
TICK_EVENT.
-/

namespace Sys2Proof.Machine

/-- Every expiry that is due, a timer standing at 0, taken at its owner: collection, lifetime, claim and hold (R150,
R152). The expiries act on different state, so they need no order (R155). -/
def State.expireDue (s : State) : State :=
  { s with
    pool := s.pool.map Record.expireDue
    lines := s.lines.expireDue
    sources := Vector.ofFn fun n => (s.sources[n]).expireDue (s.cfg.route n) s.upSet }

/-- The effect of a tick: the count returns to 0, the divisor in effect takes TICK_DIV, and every running timer of the
pool, the read-ahead unit and the attention unit is lowered by one (R149, R150). -/
def State.tick (s : State) : State :=
  { s with
    timebase := { count := 0, divisor := s.cfg.tickDiv }
    pool := s.pool.map Record.tick
    lines := { s.lines with entries := Vector.ofFn fun e => (s.lines.entries[e]).tick }
    sources := Vector.ofFn fun n => (s.sources[n]).tick }

/-- A tick event as the timebase takes it: none while gateway reset is asserted (R157). A timer expires at its `n`-th
tick and never later, so an expiry still due from the tick before is taken ahead of this one (R152, R159;
assumption 7). -/
def State.tickEvent (s : State) : State := if s.grst then s else s.expireDue.tick

/-- One bus clock of the divider: the count rises by one, or the tick event is taken on the clock that would bring it
to the divisor in effect (R149). -/
def State.divide (s : State) : State :=
  if s.timebase.divisor.toNat ≤ s.timebase.count + 1 then s.tick
  else { s with timebase := { s.timebase with count := s.timebase.count + 1 } }

/-- The end of a recovery by the clock: the next beat or the completion (R56). -/
def State.recoveryOver (s : State) : State := s.recoveryEnd.completion

/-- The phase in progress has lasted its latched time (R51, R52, R56). -/
def Operation.phaseOver (op : Operation) : Bool :=
  match op.phase with
  | .setup => decide (op.profile.setup ≤ op.phaseClocks)
  | .strobe => decide (op.profile.strobe ≤ op.phaseClocks)
  | .readyWait => decide (op.profile.readyLimit ≤ op.phaseClocks)
  | .recovery => decide (op.profile.recovery ≤ op.phaseClocks)

/-- The end of the phase in progress by the clock alone, the target driving neither PRDY nor PDCL. On a slot with ready
limit 0 a read beat samples lanes that no command described: a free value (assumption 4). -/
def State.endPhase (s : State) (op : Operation) : State :=
  match op.phase with
  | .setup => s.setupEnd false
  | .strobe =>
    { s with samples := s.samples + 1 }.strobePeriodEnd false (Config.targetLanes s.samples)
      (Config.targetParity s.samples)
  | .readyWait => s.readyLimitExpiry
  | .recovery => s.recoveryOver

/-- A recovery that has lasted its latched time ends: the next beat or the completion. A recovery of 0 clocks ends so at
once, on the clock that it begins on (R56). -/
def State.endShortRecovery (s : State) : State :=
  match s.sequencer with
  | some op => if op.phase = Phase.recovery ∧ op.phaseOver then s.recoveryOver else s
  | none => s

/-- One bus clock counted for the phase in progress; the phase that has lasted its latched time ends (R51, R52, R56). -/
def State.countPhase (s : State) : State :=
  match s.sequencer with
  | some op =>
    let counted := { op with phaseClocks := op.phaseClocks + 1 }
    if counted.phaseOver then { s with sequencer := some counted }.endPhase counted
    else { s with sequencer := some counted }
  | none => s

/-- One bus clock of the beat in progress; where it begins a RECOVERY of 0 clocks, that ends at once (R56). -/
def State.clockBeat (s : State) : State := s.countPhase.endShortRecovery

/-- What is due before a bus clock passes: the end of a RECOVERY of 0 clocks that a command began (R56), and the expiries
of the timers at 0 (R152). -/
def State.settle (s : State) : State := s.endShortRecovery.expireDue

/-- One bus clock, taken while no command waits (assumption 3): what is due is taken, then the divider and the beat in
progress advance. While gateway reset is asserted the count stays at 0 and no operation is in flight (R65, R157). -/
def State.clock (s : State) : State := if s.grst then s else s.settle.divide.clockBeat

/-- TICK_EVENT (R150). -/
def execTickEvent (s : State) : Host.Outcome State Fault Refusal := .next s.tickEvent

end Sys2Proof.Machine
end

