-- ==== Sys2Proof/Machine/Ports.lean ====
section
/-!
DEFINITION. The host ports (chapter 9): the owner of each register's reads and writes (R170), the request of a link as
a whole (R167 to R170, R174), port reset, return to UP and gateway reset, and the commands UNMAPPED_REQUEST,
PORT_STATUS, REGISTER_WRITE, PORT_RESET, RETURN_TO_UP, GATEWAY_RESET and GATEWAY_RESET_END.
-/

namespace Sys2Proof.Machine

/-! ## Control accesses (R120, R122, R130, R131, R170, R171) -/

/-- The PORT_STATUS read at offset 00h: the first word is answered and the second written to the status latch, in one
event (R171, R178). -/
def State.readStatus (s : State) (h : HostId) : State × Answer :=
  (s.modPort h fun p => { p with latch := s.statusSecond h }, .data (s.statusFirst h))

/-- A read of a register of the control window by host `h`, handed to its owner (R170, R176). -/
def State.readReg (s : State) (h : HostId) : ControlReg → State × Answer
  | .statusFirst => s.readStatus h
  | .statusSecond => (s, .data (s.port h).latch)
  | .head i => (s, .data (headWord (s.port h).queue i))
  | .threshold => (s, .data (0#14 ++ (s.port h).threshold))
  | .claim n => s.claim h n
  | .cfgIndex => (s, .data (s.port h).cfgIndex)
  | .cfgData => (s, s.cfgDataRead h)
  | .cfgExpect => (s, .data (s.port h).cfgExpect)
  | .cfgGen => (s, .data s.cfg.generation)
  | .noticePop | .cancelReads | .release | .rearm | .cfgCdata => (s, .fault .badAddress)

/-- A write of a register of the control window by host `h`, handed to its owner (R170, R176). -/
def State.writeReg (s : State) (h : HostId) (value : Word) : ControlReg → State × Answer
  | .noticePop => s.pop h
  | .threshold => s.writeThreshold h value
  | .cancelReads => (s.cancelReads h, .accept)
  | .release => s.release h value
  | .rearm => s.rearm h value
  | .cfgIndex => (s.modPort h fun p => { p with cfgIndex := value }, .accept)
  | .cfgData => s.cfgDataWrite h value
  | .cfgExpect => (s.modPort h fun p => { p with cfgExpect := value }, .accept)
  | .cfgCdata => s.cfgCdataWrite h value
  | .statusFirst | .statusSecond | .head _ | .claim _ | .cfgGen => (s, .fault .badAddress)

/-- A decoded request of host `h`, handed to its owner; one that fails decode is answered FAULT(BAD_ADDRESS) and
changes nothing (R168 to R170). -/
def State.access (s : State) (h : HostId) : Access → State × Answer
  | .slotRead slot offset width => s.slotRead h slot offset width
  | .slotWrite slot offset width data => s.slotWrite h slot offset width data
  | .readReg r => s.readReg h r
  | .writeReg r value => s.writeReg h value r
  | .badAddress => (s, .fault .badAddress)

/-- A request of host `h` by its request word and data word: taken, decoded and decided by its owner in one event
(R167, R174). -/
def State.request (s : State) (h : HostId) (word : BitVec 24) (data : Word) : State :=
  s.take h fun s => s.access h (decodeRequest word data)

/-! ## Port reset and return to UP (R163, R165) -/

/-- The port's own part and the notice and configuration units' part of a port reset (R125, R145, R163, R166, R178). -/
def Port.reseted (p : Port) : Port :=
  { p with
    up := false
    epoch := p.epoch + 1
    latch := 0#16
    threshold := 1
    sequence := 0
    nline := false
    cfgIndex := 0#16
    cfgExpect := 0#16
    queue := []
    changed := none }

/-- The port reset of host `h` as one event: the port's, notice unit's and configuration unit's parts, then the
attention unit's with `h` DOWN (R107), and the pool's (R22). -/
def State.portReset (s : State) (h : HostId) : State :=
  let down := s.modPort h Port.reseted
  let released := down.mapSources fun n src => src.portReset (down.cfg.route n) down.upSet h
  { released with pool := released.pool.filterMap (Record.afterPortReset h) }

/-- The return to UP of host `h` as one event: the port is UP, the attention unit owes its entries (R108), the notice
line is evaluated (R165). -/
def State.returnToUp (s : State) (h : HostId) : State :=
  ((s.modPort h fun p => { p with up := true }).mapSources fun n src => src.portReturn (s.cfg.route n) h).evalLine h

/-- The level of PRSTh becomes asserted; the edge is a port reset while GRST is deasserted (R161, R163). -/
def State.assertPrst (s : State) (h : HostId) : State :=
  if (s.port h).prst then s
  else
    let s := s.modPort h fun p => { p with prst := true }
    if s.grst then s else s.portReset h

/-- The level of PRSTh becomes deasserted; the edge is a return to UP while GRST is deasserted (R161, R165). -/
def State.deassertPrst (s : State) (h : HostId) : State :=
  if (s.port h).prst then
    let s := s.modPort h fun p => { p with prst := false }
    if s.grst then s else s.returnToUp h
  else s

/-! ## Gateway reset (R173) -/

/-- A port at the assertion of gateway reset: DOWN, with every item at R160's value; the level of PRSTh is followed and
the link is left as it is (R161, R173). -/
def Port.gatewayReset (p : Port) : Port :=
  { Port.reset with up := false, prst := p.prst, answer := p.answer }

/-- The assertion of GRST: every block takes its reset state, the operation in flight is withdrawn, PBRST is asserted
(R24, R40, R65, R83, R109, R127, R147, R157, R173). -/
def State.gatewayReset (s : State) : State :=
  { s with
    pool := []
    arbiter := Arbiter.reset
    sequencer := none
    bus := BusPins.reset true
    lines := ReadAhead.reset
    sources := Vector.replicate 8 Source.reset
    ports := Vector.ofFn fun h => (s.ports[h]).gatewayReset
    cfg := ConfigSet.reset
    timebase := Timebase.reset
    grst := true }

/-- The deassertion of GRST: PBRST is deasserted (R66), each source takes the level of its line afresh (R109), and each
port whose PRSTh is deasserted returns to UP (R161, R165). Where GRST is not asserted there is no edge. -/
def State.gatewayResetEnd (s : State) : State :=
  if s.grst then
    let s := { s with grst := false, bus := { s.bus with pbrst := false } }
    let s := s.mapSources fun n src => { src with line := s.patn[n] }
    allHosts.foldl (fun s h => if (s.port h).prst then s else s.returnToUp h) s
  else s

/-! ## Commands -/

/-- UNMAPPED_REQUEST (R168): a raw request word on the link. An unmapped address or set reserved bits are answered
FAULT(BAD_ADDRESS); a word that passes decode is the request it spells. -/
def execUnmappedRequest (h : HostId) (word : BitVec 24) (data : Word) (s : State) :
    Host.Outcome State Fault Refusal :=
  .next (s.request h word data)

/-- PORT_STATUS (R171): a control read at `offset`, decoded by R170. At offset 00h it is the PORT_STATUS read. -/
def execPortStatus (h : HostId) (width : Width) (offset : BitVec 8) (s : State) :
    Host.Outcome State Fault Refusal :=
  .next (s.take h fun s => s.access h (controlRead width offset))

/-- REGISTER_WRITE (R130): a control write at `offset`, decoded by R170. -/
def execRegisterWrite (h : HostId) (width : Width) (offset : BitVec 8) (value : Word) (s : State) :
    Host.Outcome State Fault Refusal :=
  .next (s.take h fun s => s.access h (controlWrite width offset value))

/-- PORT_RESET (R163). -/
def execPortReset (h : HostId) (s : State) : Host.Outcome State Fault Refusal := .next (s.assertPrst h)

/-- RETURN_TO_UP (R165). -/
def execReturnToUp (h : HostId) (s : State) : Host.Outcome State Fault Refusal := .next (s.deassertPrst h)

/-- GATEWAY_RESET (R173). -/
def execGatewayReset (s : State) : Host.Outcome State Fault Refusal := .next s.gatewayReset

/-- GATEWAY_RESET_END (R161). -/
def execGatewayResetEnd (s : State) : Host.Outcome State Fault Refusal := .next s.gatewayResetEnd

end Sys2Proof.Machine
end

