-- ==== Sys2Proof/Machine/Dispatch.lean ====
section
/-!
DEFINITION. The dispatch: the meaning of each command, one arm per row of spec/opcode_table.json.
-/

namespace Sys2Proof.Machine

def exec (i : Instr) (s : State) : Host.Outcome State Fault Refusal :=
  match i with
  | .slotRead h slot offset width => Sys2Proof.Machine.execSlotRead h slot offset width s
  | .slotWrite h slot offset width data => Sys2Proof.Machine.execSlotWrite h slot offset width data s
  | .unmappedRequest h word data => Sys2Proof.Machine.execUnmappedRequest h word data s
  | .portStatus h width offset => Sys2Proof.Machine.execPortStatus h width offset s
  | .noticePop h value => Sys2Proof.Machine.execNoticePop h value s
  | .threshold h value => Sys2Proof.Machine.execThreshold h value s
  | .cancelReads h value => Sys2Proof.Machine.execCancelReads h value s
  | .claim h n => Sys2Proof.Machine.execClaim h n s
  | .release h value => Sys2Proof.Machine.execRelease h value s
  | .rearm h value => Sys2Proof.Machine.execRearm h value s
  | .cfgDataWrite h value => Sys2Proof.Machine.execCfgDataWrite h value s
  | .cfgCdataWrite h value => Sys2Proof.Machine.execCfgCdataWrite h value s
  | .registerWrite h width offset value => Sys2Proof.Machine.execRegisterWrite h width offset value s
  | .attentionLineActive n => Sys2Proof.Machine.execAttentionLineActive n s
  | .attentionLineInactive n => Sys2Proof.Machine.execAttentionLineInactive n s
  | .tickEvent => Sys2Proof.Machine.execTickEvent s
  | .collectionTimerExpiry h slot offset width => Sys2Proof.Machine.execCollectionTimerExpiry h slot offset width s
  | .lifetimeExpiry e => Sys2Proof.Machine.execLifetimeExpiry e s
  | .claimTimeout n => Sys2Proof.Machine.execClaimTimeout n s
  | .holdTimeout n => Sys2Proof.Machine.execHoldTimeout n s
  | .selection => Sys2Proof.Machine.execSelection s
  | .setupEnd pdcl => Sys2Proof.Machine.execSetupEnd pdcl s
  | .strobePeriodEnd prdy lanes ppar => Sys2Proof.Machine.execStrobePeriodEnd prdy lanes ppar s
  | .ready lanes ppar => Sys2Proof.Machine.execReady lanes ppar s
  | .decline => Sys2Proof.Machine.execDecline s
  | .readyLimitExpiry => Sys2Proof.Machine.execReadyLimitExpiry s
  | .recoveryEnd => Sys2Proof.Machine.execRecoveryEnd s
  | .completion => Sys2Proof.Machine.execCompletion s
  | .placementPass h => Sys2Proof.Machine.execPlacementPass h s
  | .portReset h => Sys2Proof.Machine.execPortReset h s
  | .returnToUp h => Sys2Proof.Machine.execReturnToUp h s
  | .gatewayReset => Sys2Proof.Machine.execGatewayReset s
  | .gatewayResetEnd => Sys2Proof.Machine.execGatewayResetEnd s

end Sys2Proof.Machine
end

