-- ==== Sys2Proof/Safety.lean ====
section
/-!
DEFINITION. What counts as a sound state: the facts that the manual states of every state of the part, block by block.
Each is a predicate on one state; the statements in Certificates say that a step keeps them.
-/

namespace Sys2Proof.Machine

/-! ## Request pool -/

/-- The pool never holds more than 32 records (R7). -/
def State.PoolWithin (s : State) : Prop := s.pool.length ≤ Config.poolPlaces

/-- The fields of a record agree with its kind and state: a WORD record has an even offset, a BYTE write keeps no upper
byte, a BYTE read is DONE with no upper byte, only a READ is DONE, ORPHANED or abandoned, only a WRITE is FAILED, never
with BUS_PARITY, and only a WORD with partial yes (R1, R2, R12, R15, R175). -/
def Record.Sound (r : Record) : Prop :=
  (r.width = .word → r.offset.getLsbD 0 = false) ∧
    (∀ data, r.kind = .write data → r.width = .byte → data.toNat < 256) ∧
    match r.kind, r.state with
    | .read, .failed _ _ => False
    | .read, .done (.data w) _ => r.width = .byte → w.toNat < 256
    | .read, _ => True
    | .write _, .done _ _ => False
    | .write _, .orphaned => False
    | .write _, .onBus abandoned => abandoned = false
    | .write _, .failed fault partialWrite => fault ≠ .busParity ∧ (partialWrite = some true → r.width = .word)
    | .write _, .queued => True

/-- No two candidates of one host have the same slot, offset and width (R9). -/
def State.ReadKeysUnique (s : State) : Prop :=
  s.pool.Pairwise fun a b =>
    a.isCandidate = true → b.isCandidate = true →
      ¬ (a.host = b.host ∧ a.slot = b.slot ∧ a.offset = b.offset ∧ a.width = b.width)

/-! ## Bus sequencer -/

/-- The sequencer is in ACCESS or FILL exactly when one record is ON_BUS, which is the one it performs, and IDLE exactly
when none is (R46). A write operation has no parity fault (R55). -/
def State.BusAgrees (s : State) : Prop :=
  match s.sequencer with
  | none => s.pool.filter Record.isOnBus = []
  | some op =>
    (s.pool.filter Record.isOnBus).map Record.toJob = [op.job] ∧
      (op.job.isWrite = true → ∀ f ∈ op.endingFault, f.1 ≠ .busParity)

/-- The offsets of the bytes that one beat of the operation carries: two on a 16-bit word beat, one otherwise (R49, R50,
R54). -/
def Operation.beatBytes (op : Operation) (offset : Word) : List Word :=
  if op.profile.wide = true ∧ (op.fillLine.isSome = true ∨ op.job.width = .word) then [offset, offset + 1#16]
  else [offset]

/-- The number of beats whose transfer has been taken: the beat in progress counts once it has succeeded (R45). -/
def Operation.beatsTaken (op : Operation) : Nat :=
  if op.phase = .recovery ∧ op.endingFault = none then op.index else op.index - 1

/-- The operation in flight follows its plan: the plan is the one of R49 or R50, the index lies within it, a fault is the
fault of the beat in progress and stands in its RECOVERY only, a fill is of a READ and of the record's line, and a READ
has collected exactly the bytes of the beats taken so far, in the order of the plan (R45, R49, R50, R54, R56). -/
def Operation.Sound (op : Operation) : Prop :=
  1 ≤ op.index ∧ op.index ≤ op.plan.length ∧
    op.plan = (if op.fillLine.isSome = true then fillPlan op.profile.wide op.job else accessPlan op.profile.wide op.job) ∧
    (op.fillLine.isSome = true →
      op.job.isWrite = false ∧ op.fillLine = some (op.job.slot, lineBase op.job.offset)) ∧
    (op.phase ≠ .recovery → op.endingFault = none) ∧
    (∀ f ∈ op.endingFault, f.2 = op.index) ∧
    op.collected.map Prod.fst =
      if op.job.isWrite = true then [] else (op.plan.take op.beatsTaken).flatMap op.beatBytes

/-- The operation in flight, if there is one, follows its plan. -/
def State.OperationSound (s : State) : Prop := ∀ op ∈ s.sequencer, op.Sound

/-- The P-bus is at rest: no select, no strobe, and the gateway drives neither the data lanes nor PPAR (R56, R66). -/
def BusPins.AtRest (b : BusPins) : Prop :=
  b.psel = none ∧ b.pstb = false ∧ b.pd = none ∧ b.ppar = none

/-- The pins follow the sequencer: PBRST is GRST's level (R65, R66), the bus is at rest while the sequencer is IDLE and in
RECOVERY, and in the other phases select, address, direction, data and parity are those of the beat in progress, with PSTB
asserted after SETUP (R51, R55, R56). -/
def State.PinsSound (s : State) : Prop :=
  s.bus.pbrst = s.grst ∧
    match s.sequencer with
    | none => s.bus.AtRest
    | some op =>
      if op.phase = .recovery then s.bus.AtRest
      else
        s.bus =
          { psel := some op.job.slot
            pstb := decide (op.phase ≠ .setup)
            pa := op.beatOffset
            pwr := op.job.isWrite
            pd := op.writeLanes
            ppar := op.writeLanes.map op.profile.writeParity
            pbrst := s.grst }

/-! ## Read-ahead lines -/

/-- The slot and base of an entry that is not INVALID. -/
def LineEntry.tag : LineEntry → Option (SlotId × Word)
  | .invalid => none
  | .filling slot base _ => some (slot, base)
  | .valid slot base _ _ => some (slot, base)

/-- The entry is FILLING. -/
def LineEntry.isFilling : LineEntry → Bool
  | .filling _ _ _ => true
  | _ => false

/-- The recency order holds every entry that is not INVALID, once, and no other (R69). -/
def ReadAhead.RecencySound (l : ReadAhead) : Prop :=
  l.recency.Nodup ∧ ∀ e : EntryId, e ∈ l.recency ↔ l.entries[e].isInvalid = false

/-- No two entries that are not INVALID have the same slot and line base (R70). -/
def ReadAhead.TagsUnique (l : ReadAhead) : Prop :=
  ∀ e f : EntryId, l.entries[e].tag.isSome = true → l.entries[e].tag = l.entries[f].tag → e = f

/-- The fill line of the operation in flight, absent while the sequencer is IDLE or in ACCESS (R45). -/
def State.fillInFlight (s : State) : Option (SlotId × Word) := s.sequencer.bind Operation.fillLine

/-- An entry is FILLING exactly while the sequencer is in FILL, and it is the entry of the fill line (R70). -/
def State.FillAgrees (s : State) : Prop :=
  (∀ e : EntryId, (s.entry e).isFilling = true → s.fillInFlight = (s.entry e).tag) ∧
    (s.fillInFlight.isSome = true → ∃ e : EntryId, (s.entry e).isFilling = true)

/-- The lines agree among themselves and with the sequencer (R69, R70). -/
def State.LinesAgree (s : State) : Prop :=
  s.lines.RecencySound ∧ s.lines.TagsUnique ∧ s.FillAgrees

/-- No VALID line holds a byte that a WRITE record in QUEUED or ON_BUS targets (R72). -/
def State.NoStaleLine (s : State) : Prop :=
  ∀ e : EntryId,
    match s.entry e with
    | .valid slot base _ _ => s.lineQuery slot base = false
    | _ => True

/-- A VALID entry, and a FILLING one that is not poisoned, belongs to a slot that is enabled and prefetchable; a QUEUED
record's slot is enabled (R47, R82). -/
def State.ServedSlots (s : State) : Prop :=
  (∀ e : EntryId,
    match s.entry e with
    | .valid slot _ _ _ => s.cfg.enabled slot = true ∧ s.cfg.prefetchable slot = true
    | .filling slot _ false => s.cfg.enabled slot = true ∧ s.cfg.prefetchable slot = true
    | _ => True) ∧
  ∀ r ∈ s.pool, r.isQueued = true → s.cfg.enabled r.slot = true

/-! ## Attention sources -/

/-- A source agrees with its route and the ports: a RAISED source has its line active and a round of at most 6, a source
that is not IDLE has a subscriber, an IDLE source with its line active has none, and the holder of a CLAIMED source is
UP and in its subscriber set (R89, R90, R94). -/
def Source.Sound (src : Source) (route : Route) (up : HostId → Bool) : Prop :=
  match src.state with
  | .idle => src.line = true → route.hasSubscriber = false
  | .raised round _ => src.line = true ∧ route.hasSubscriber = true ∧ round ≤ 6
  | .claimed holder _ => up holder = true ∧ route.subscribes holder = true
  | .stuck => route.hasSubscriber = true

/-- Every source is sound; a DOWN port is owed nothing; the line level that a source records is the level of its pin while
gateway reset is deasserted; while it is asserted every port is DOWN and every subscriber set is empty (R91, R93, R107,
R109). -/
def State.SourcesSound (s : State) : Prop :=
  (∀ n : SourceId, (s.source n).Sound (s.cfg.route n) s.upSet) ∧
    (∀ n : SourceId, ∀ h : HostId, (s.port h).up = false →
      (s.source n).owed[h] = none ∧ (s.source n).forced[h] = none) ∧
    (s.grst = false → ∀ n : SourceId, (s.source n).line = s.patn[n]) ∧
    (s.grst = true → (∀ h : HostId, (s.port h).up = false) ∧ ∀ n : SourceId, (s.cfg.route n).hasSubscriber = false)

/-- The round that an owed attention entry carries, 0 for SOURCE_STUCK, which carries none (R89). -/
def AttentionKind.round : AttentionKind → Nat
  | .attention round => round
  | .repeated round => round
  | .sourceStuck => 0

/-- The round that a notice carries, 0 for the kinds that carry none (R111). -/
def NoticeBody.round : NoticeBody → Nat
  | .attention _ round => round
  | .repeated _ round => round
  | _ => 0

/-- Every round lies between 0 and 6: of a RAISED source, of an owed attention entry, and of a notice in a queue (R89,
R111, R179). -/
def State.RoundsWithin (s : State) : Prop :=
  (∀ n : SourceId,
    (∀ round timer, (s.source n).state = .raised round timer → round ≤ 6) ∧
      ∀ h : HostId, ∀ entry ∈ (s.source n).owed[h], entry.kind.round ≤ 6) ∧
    ∀ h : HostId, ∀ m ∈ (s.port h).queue, m.body.round ≤ 6

/-! ## Ports and notices -/

/-- A port is UP exactly while neither PRSTh nor GRST is asserted (R161). -/
def State.PortLevels (s : State) : Prop :=
  ∀ h : HostId, (s.port h).up = (!(s.port h).prst && !s.grst)

/-- Every notice queue holds at most 8 notices, in order of priority from highest to lowest (R113). -/
def State.QueuesSound (s : State) : Prop :=
  ∀ h : HostId, (s.port h).queue.length ≤ Config.queuePlaces ∧
    (s.port h).queue.Pairwise fun a b => b.priority ≤ a.priority

/-- Every notice line is asserted exactly when its port is UP and its queue holds a notice at or above THRESHOLD
(R123). -/
def State.NoticeLines (s : State) : Prop :=
  ∀ h : HostId, (s.port h).nline = true ↔
    (s.port h).up = true ∧ ∃ n ∈ (s.port h).queue, (s.port h).threshold ≤ n.priority

/-! ## Configuration set, timebase and arbiter -/

/-- Every item of the configuration set holds a legal word (R129). -/
def State.ConfigLegal (s : State) : Prop := ∀ item : Item, item.legal (s.cfg.read item) = true

/-- The divisor in effect is at least 1 and the count below it; TICK_DIV is never 0 (R129, R149). -/
def State.TimebaseSound (s : State) : Prop :=
  1 ≤ s.timebase.divisor.toNat ∧ s.timebase.count < s.timebase.divisor.toNat ∧ s.cfg.tickDiv ≠ 0#16

/-- The quantum remaining lies between 0 and 8, and is 0 while there is no holder (R30). -/
def State.ArbiterSound (s : State) : Prop :=
  s.arbiter.quantum ≤ 8 ∧ (s.arbiter.holder = none → s.arbiter.quantum = 0)

end Sys2Proof.Machine
end

