-- ==== Sys2Proof/Certificates/Slice0/Obligations.lean ====
section
/-!
DEFINITION. The statements about the gateway: what each command does and leaves unchanged, and the facts about every
state that each step keeps. A statement whose conclusion is an equation `exec c s = .next t` gives the whole next state,
and so also the frame of the command.
-/

namespace Sys2Proof.Statements

open Sys2Proof Sys2Proof.Machine

/-! ## Terms of the statements -/

/-- `s` with `a` on the link of host `h` as the answer of its latest request, and nothing else changed. -/
def answering (s : State) (h : HostId) (a : Answer) : State :=
  s.modPort h fun p => { p with answer := some a }

/-- The commands `cs`, waiting in this order at `s`, run one after another and leave `t`. -/
def RunsTo (cs : List Instr) (s t : State) : Prop :=
  Host.Core.run core cs.length { s with pending := cs } = .next t

/-- The predicate is kept by every step, from every state that meets it. -/
def Keeps (P : State → Prop) : Prop :=
  ∀ s t : State, P s → step s = .next t → P t

/-- The record is a candidate for a slot read and has its key (R9). -/
def Matches (h : HostId) (slot : SlotId) (offset : Word) (width : Width) (r : Record) : Prop :=
  r.kind = .read ∧ r.host = h ∧ r.slot = slot ∧ r.offset = offset ∧ r.width = width ∧
    (r.state = .queued ∨ r.state = .onBus false ∨ ∃ result timer, r.state = .done result timer)

/-- The record is a write still to be performed (R13). -/
def PendingWrite (r : Record) : Prop :=
  r.kind ≠ .read ∧ (r.state = .queued ∨ ∃ abandoned, r.state = .onBus abandoned)

/-- Some write still to be performed targets a byte of the line (R13). -/
def WritePendingInLine (s : State) (slot : SlotId) (base : Word) : Prop :=
  ∃ r ∈ s.pool, PendingWrite r ∧ r.slot = slot ∧ ∃ o ∈ targetBytes r.offset r.width, lineBase o = base

/-- The part of a record that is fixed at its admission (R1). -/
def identity (r : Record) : HostId × Job × BitVec 4 := (r.host, r.toJob, r.epoch)

/-- The number that a line delivers for a read: its byte, or its two bytes with the first one low (R76). -/
def lineNumber (data : Vector Byte 16) (offset : Word) : Width → Nat
  | .byte => data[Fin.ofNat 16 offset.toNat].toNat
  | .word => data[Fin.ofNat 16 offset.toNat].toNat + 256 * data[Fin.ofNat 16 (offset.toNat + 1)].toNat

/-- The lines after a hit on entry `e`: it is the most recent, and nothing else changes (R69, R76). -/
def hitLines (l : ReadAhead) (e : EntryId) : ReadAhead :=
  { l with recency := e :: l.recency.filter fun x => x ≠ e }

/-- What the admission of a write into the line leaves of an entry: VALID becomes INVALID, FILLING poisoned (R74). -/
def overlapped (slot : SlotId) (base : Word) : LineEntry → LineEntry
  | .invalid => .invalid
  | .filling s b poisoned => .filling s b (poisoned || decide (s = slot ∧ b = base))
  | .valid s b data timer => if s = slot ∧ b = base then .invalid else .valid s b data timer

/-- What a write of a slot's profile leaves of an entry: a VALID one of the slot becomes INVALID, a FILLING one poisoned
(R81). -/
def reprofiled (slot : SlotId) : LineEntry → LineEntry
  | .invalid => .invalid
  | .filling s b poisoned => .filling s b (poisoned || decide (s = slot))
  | .valid s b data timer => if s = slot then .invalid else .valid s b data timer

/-- The lines with every entry changed by `f`; what becomes INVALID leaves the recency order (R69). -/
def linesChanged (l : ReadAhead) (f : LineEntry → LineEntry) : ReadAhead where
  entries := Vector.ofFn fun e => f l.entries[e]
  recency := l.recency.filter fun e => decide (f l.entries[e] ≠ .invalid)

/-- The lines with entry `e` set to `entry`, not INVALID, as the most recent (R69). -/
def linesPlaced (l : ReadAhead) (e : EntryId) (entry : LineEntry) : ReadAhead where
  entries := l.entries.set e entry
  recency := e :: l.recency.filter fun x => x ≠ e

/-- The lines with entry `e` made INVALID (R69). -/
def linesDropped (l : ReadAhead) (e : EntryId) : ReadAhead where
  entries := l.entries.set e .invalid
  recency := l.recency.filter fun x => x ≠ e

/-- The parity that a slot's profile asks for holds over its data lanes and PPAR (R54). -/
def ParityHolds (p : Profile) (lanes : Word) (ppar : Bool) : Prop :=
  let count := ((List.range (if p.wide then 16 else 8)).filter fun i => lanes.getLsbD i).length + ppar.toNat
  match p.parity with
  | .none => True
  | .even => count % 2 = 0
  | .odd => count % 2 = 1

/-- The strobe of the beat in progress has ended and its RECOVERY begins: PSTB and PSEL deasserted, data and parity not
driven, address and direction kept (R56). -/
def inRecovery (s : State) (op : Operation) (collected : List (Word × Byte)) (fault : Option (AccessFault × Nat)) :
    State :=
  { s with
    sequencer := some { op with phase := .recovery, phaseClocks := 0, collected := collected, endingFault := fault }
    bus := { s.bus with psel := none, pstb := false, pd := none, ppar := none } }

/-- The value that a READ's operation has collected: its byte, or its word with the byte of the lower offset low (R57,
R59). -/
def collectedNumber (op : Operation) : Nat :=
  match op.job.width with
  | .byte => (op.byteAt op.job.offset).toNat
  | .word => (op.byteAt op.job.offset).toNat + 256 * (op.byteAt (op.job.offset + 1#16)).toNat

/-- A source that owes an entry of this kind to every subscriber that is UP, in place of any earlier one (R91). -/
def owing (src : Source) (route : Route) (up : HostId → Bool) (kind : AttentionKind) : Source :=
  { src with
    owed := Vector.ofFn fun h =>
      if route.subscribers.getLsbD h.val ∧ up h then some { kind := kind, priority := route.priority }
      else src.owed[h] }

/-- A source that is released: raised anew with its line active and a subscriber, IDLE otherwise (R97). -/
def released (src : Source) (route : Route) (up : HostId → Bool) : Source :=
  if src.line = true ∧ route.subscribers ≠ 0#4 then
    owing { src with state := .raised 0 route.claimTimeout } route up (.attention 0)
  else { src with state := .idle }

/-- The entry that an added or returning subscriber is owed by the source's state (R106, R108). -/
def catchUp (src : Source) : Option AttentionKind :=
  match src.state with
  | .raised 0 _ => some (.attention 0)
  | .raised (round + 1) _ => some (.repeated (round + 1))
  | .stuck => some .sourceStuck
  | _ => none

/-- Every expiry that is due taken at once: a DONE record whose timer stands at 0 is ORPHANED, such a VALID line INVALID
and out of the recency order, such a RAISED source in its next round or STUCK, such a CLAIMED source released with
FORCED_RELEASE owed to its holder (R16, R78, R100, R103, R155). -/
def expired (s : State) : State :=
  { s with
    pool :=
      s.pool.map fun r =>
        match r.state with
        | .done _ 0 => { r with state := .orphaned }
        | _ => r
    lines :=
      { entries :=
          Vector.ofFn fun e =>
            match s.lines.entries[e] with
            | .valid _ _ _ 0 => .invalid
            | entry => entry
        recency :=
          s.lines.recency.filter fun e =>
            match s.lines.entries[e] with
            | .valid _ _ _ 0 => false
            | _ => true }
    sources :=
      Vector.ofFn fun n =>
        let src := s.sources[n]
        let route := s.cfg.route n
        let up := fun g => (s.port g).up
        match src.state with
        | .raised round 0 =>
          if round + 1 < route.repeatLimit then
            owing { src with state := .raised (round + 1) route.claimTimeout } route up (.repeated (round + 1))
          else owing { src with state := .stuck } route up .sourceStuck
        | .claimed holder (some 0) =>
          released { src with forced := src.forced.set holder (some .holdExpired) } route up
        | _ => src }

/-- A tick taken: the count restarts with TICK_DIV as its divisor, and every running timer is lowered by one (R149,
R150). -/
def lowered (s : State) : State :=
  { s with
    timebase := { count := 0, divisor := s.cfg.tickDiv }
    pool :=
      s.pool.map fun r =>
        match r.state with
        | .done result timer => { r with state := .done result (timer - 1) }
        | _ => r
    lines :=
      { s.lines with
        entries :=
          Vector.ofFn fun e =>
            match s.lines.entries[e] with
            | .valid slot base data timer => .valid slot base data (timer - 1)
            | entry => entry }
    sources :=
      Vector.ofFn fun n =>
        match (s.sources[n]).state with
        | .raised round timer => { s.sources[n] with state := .raised round (timer - 1) }
        | .claimed holder (some timer) => { s.sources[n] with state := .claimed holder (some (timer - 1)) }
        | _ => s.sources[n] }

/-- The divider and the timers on one bus clock: what is due expires, then the count rises by one, or the tick is taken
on the clock that would bring it to the divisor in effect (R149, R150, R152). -/
def clockedTimers (s : State) : State :=
  if s.timebase.count + 1 < s.timebase.divisor.toNat then
    { expired s with timebase := { s.timebase with count := s.timebase.count + 1 } }
  else lowered (expired s)

/-- The bus clocks that the phase in progress lasts: the latched setup, strobe, ready limit or recovery (R51, R52,
R56). -/
def latchedTime (op : Operation) : Nat :=
  match op.phase with
  | .setup => op.profile.setup
  | .strobe => op.profile.strobe
  | .readyWait => op.profile.readyLimit
  | .recovery => op.profile.recovery

/-- The event at the end of a RECOVERY: the next beat after a success with a further beat planned, else the completion
(R56). -/
def recoveryEvent (op : Operation) : Instr :=
  if op.endingFault = none ∧ op.index < op.plan.length then .recoveryEnd else .completion

/-- `t` is `v`, with a RECOVERY of 0 clocks that `v` has begun ended at once (R56). -/
def RecoveryOfZeroEnded (v t : State) : Prop :=
  match v.sequencer with
  | some op =>
    if op.phase = .recovery ∧ op.profile.recovery = 0 then exec (recoveryEvent op) v = .next t else t = v
  | none => t = v

/-- The port of host `h` with one notice more, placed with the counter's value (R113, R114, R123). -/
def placed (s : State) (h : HostId) (priority : BitVec 2) (body : NoticeBody) : State :=
  s.modPort h fun p =>
    let queue := insertNotice { sequence := p.sequence, priority := priority, body := body } p.queue
    { p with
      queue := queue
      sequence := p.sequence + 1
      nline := queue.any fun n => decide (p.threshold ≤ n.priority) }

/-- The number that a head register carries for a notice (R179). -/
def headNumber (n : Notice) (i : Fin 4) : Nat :=
  match i, n.body with
  | 0, .attention _ _ => 1 + 16 * n.priority.toNat + 256 * n.sequence.toNat
  | 0, .repeated _ _ => 2 + 16 * n.priority.toNat + 256 * n.sequence.toNat
  | 0, .sourceStuck _ => 3 + 16 * n.priority.toNat + 256 * n.sequence.toNat
  | 0, .forcedRelease _ _ => 4 + 16 * n.priority.toNat + 256 * n.sequence.toNat
  | 0, .writeFailed _ _ _ _ _ _ => 5 + 16 * n.priority.toNat + 256 * n.sequence.toNat
  | 0, .readOrphaned _ _ _ => 6 + 16 * n.priority.toNat + 256 * n.sequence.toNat
  | 0, .configChanged _ _ => 7 + 16 * n.priority.toNat + 256 * n.sequence.toNat
  | 1, .attention source round => source.val + 16 * round
  | 1, .repeated source round => source.val + 16 * round
  | 1, .sourceStuck source => source.val
  | 1, .forcedRelease source .holdExpired => source.val + 256 * 1
  | 1, .forcedRelease source .routeChanged => source.val + 256 * 2
  | 1, .writeFailed slot _ .byte _ _ _ => slot.val
  | 1, .writeFailed slot _ .word _ _ _ => slot.val + 8
  | 1, .readOrphaned slot _ .byte => slot.val
  | 1, .readOrphaned slot _ .word => slot.val + 8
  | 1, .configChanged _ writer => 4096 * writer.val
  | 2, .writeFailed _ offset _ _ _ _ => offset.toNat
  | 2, .readOrphaned _ offset _ => offset.toNat
  | 2, .configChanged generation _ => generation.toNat
  | 2, _ => 0
  | 3, .writeFailed _ _ _ fault partialWrite epoch =>
    (match fault with
      | .slotOff => 3
      | .busTimeout => 4
      | .busParity => 5
      | .busDeclined => 6) + 16 * partialWrite.toNat + 256 * epoch.toNat
  | 3, _ => 0

/-- The index of an item (R128). -/
def itemIndex : Item → Nat
  | .tickDiv => 0x00
  | .collectLimit => 0x01
  | .lineLife => 0x02
  | .arbQuantum => 0x03
  | .quota h => 0x04 + h.val
  | .subscribers => 0x08
  | .mode slot => 0x10 + 4 * slot.val
  | .timingA slot => 0x10 + 4 * slot.val + 1
  | .timingB slot => 0x10 + 4 * slot.val + 2
  | .routeA n => 0x30 + 2 * n.val
  | .routeB n => 0x30 + 2 * n.val + 1

/-- The values that an item takes (R128, R129, R180, R181). -/
def LegalNumber (v : Nat) : Item → Prop
  | .tickDiv => v ≠ 0
  | .collectLimit => v ≠ 0
  | .lineLife => v ≤ 255
  | .arbQuantum => v ≤ 3
  | .quota _ => 1 ≤ v ∧ v ≤ 32
  | .subscribers => v ≤ 15
  | .mode _ => v / 64 = 0 ∧ v / 8 % 2 = 0 ∧ v / 16 % 4 ≠ 3
  | .timingA _ => 1 ≤ v % 16 ∧ v / 16 % 16 = 0 ∧ 1 ≤ v / 256 % 64 ∧ v / 16384 = 0
  | .timingB _ => v / 64 % 4 = 0
  | .routeA _ => v / 64 % 4 = 0 ∧ 1 ≤ v / 256 ∧ v / 256 ≤ 7
  | .routeB _ => 1 ≤ v % 256

/-- The item that a write of CFG_DATA or CFG_CDATA by host `h` names at its present CFG_INDEX. -/
def Names (s : State) (h : HostId) (item : Item) : Prop := (s.port h).cfgIndex.toNat = itemIndex item

end Sys2Proof.Statements

section

open Sys2Proof Sys2Proof.Machine Sys2Proof.Statements

/-! ## The step and the requests of a link -/

/-- A step with command `c` at the front of the queue is `exec c` on the state with the queue's rest. -/
def Obligations.StepTakesFrontCommand : Prop :=
  ∀ (c : Instr) (s : State), step { s with pending := c :: s.pending } = exec c s

/-- On an empty queue a step is one bus clock (the model's choice, assumption 3). The divider counts as R149 gives, and on
the clock of its tick every running timer is lowered; before either, the expiries of timers at 0 are taken (R150, R152,
assumption 7). The ports, the configuration set, the arbiter and the levels of the input pins stay. A phase in progress
counts one clock, and the phase that has lasted its latched setup, strobe, ready limit or recovery ends with its event,
with no ready and no decline given; a RECOVERY of 0 clocks ends at once, on the clock that began it, or, where a command
began it, ahead of the clock (R51, R52, R56). What a target drives at such a sampling is free (assumption 4). While gateway
reset is asserted nothing happens (R157). -/
def Obligations.IdleStepIsOneBusClock : Prop :=
  ∀ s : State, s.pending = [] →
    (s.grst = true → step s = .next s) ∧
    (s.grst = false →
      (∃ t, step s = .next t ∧
        t.timebase =
          (if s.timebase.count + 1 < s.timebase.divisor.toNat then
            { s.timebase with count := s.timebase.count + 1 }
          else { count := 0, divisor := s.cfg.tickDiv }) ∧
        t.ports = s.ports ∧ t.cfg = s.cfg ∧ t.arbiter = s.arbiter ∧ t.grst = s.grst ∧ t.patn = s.patn ∧
        t.pending = [] ∧ t.sources = (clockedTimers s).sources) ∧
      (s.sequencer = none → step s = .next (clockedTimers s)) ∧
      ∀ op, s.sequencer = some op →
        (op.phase = .recovery → op.profile.recovery ≤ op.phaseClocks →
          ∃ v, exec (recoveryEvent op) s = .next v ∧ step s = step v) ∧
        (¬ (op.phase = .recovery ∧ op.profile.recovery ≤ op.phaseClocks) →
          let u := clockedTimers s
          (op.phaseClocks + 1 < latchedTime op →
            step s = .next { u with sequencer := some { op with phaseClocks := op.phaseClocks + 1 } }) ∧
          (latchedTime op ≤ op.phaseClocks + 1 →
            ∃ v t, step s = .next t ∧ RecoveryOfZeroEnded v t ∧
              (op.phase = .setup → exec (.setupEnd false) u = .next v) ∧
              (op.phase = .strobe →
                ∃ lanes ppar,
                  exec (.strobePeriodEnd false lanes ppar) { u with samples := u.samples + 1 } = .next v) ∧
              (op.phase = .readyWait → exec .readyLimitExpiry u = .next v) ∧
              (op.phase = .recovery → exec (recoveryEvent op) u = .next v))))

/-- Decode and encode agree on every command that a host presents: the request word written for a well-formed command
spells that command, with every operand (R169, R170, R174, R176). -/
def Obligations.CommandOfItsRequestWord : Prop :=
  ∀ c : Instr, c.wellFormed = true → ∀ h word data, c.request = some (h, word, data) → commandOf h word data = c

/-- Every request word spells a well-formed command, and the request word of that command is the word: no bit of the link
is dropped. The data word is kept too, where the request carries one (R168, R174). -/
def Obligations.EveryRequestWordIsACommand : Prop :=
  ∀ (h : HostId) (word : BitVec 24) (data : Word),
    (commandOf h word data).wellFormed = true ∧
      ∃ kept, (commandOf h word data).request = some (h, word, kept) ∧ (word.getLsbD 21 = true → kept = data)

/-- A request presented as its raw word and the command of the table that the word spells have the same effect: the
decode of the port and the rows of the table agree (R167 to R170). -/
def Obligations.RequestWordRunsAsItsCommand : Prop :=
  ∀ (h : HostId) (word : BitVec 24) (data : Word) (s : State),
    exec (commandOf h word data) s = .next (s.request h word data)

/-- A DOWN port takes no request: no block is reached and the link carries no answer (R162). That the link then holds no
answer, in place of its last one, is the model's choice (assumption 1). -/
def Obligations.DownPortTakesNoRequest : Prop :=
  ∀ c h word data s, c.request = some (h, word, data) → (s.port h).up = false →
    exec c s = .next (s.modPort h fun p => { p with answer := none })

/-- The decode of a request word: set reserved bits and unmapped addresses fail; a slot address names its slot and
offset; a control address reaches a register only with width WORD and an access the register allows. A request that
fails decode, whatever its row, is answered FAULT(BAD_ADDRESS) by the port and changes nothing (R168, R169, R170, R174,
R176). -/
def Obligations.RequestDecode : Prop :=
  (∀ h word data s, (s.port h).up = true → decodeRequest word data = .badAddress →
    exec (.unmappedRequest h word data) s = .next (answering s h (.fault .badAddress)) ∧
    ∀ c, c.request = some (h, word, data) → exec c s = .next (answering s h (.fault .badAddress))) ∧
  ∀ (word : BitVec 24) (data : Word),
    let address := (word.extractLsb' 0 20).toNat
    let width := if word.getLsbD 20 then Width.word else Width.byte
    (word.extractLsb' 22 2 ≠ 0#2 ∨ 0x80100 ≤ address → decodeRequest word data = .badAddress) ∧
    (word.extractLsb' 22 2 = 0#2 →
      (∀ (slot : SlotId) (offset : Word), address = 0x10000 * slot.val + offset.toNat →
        decodeRequest word data =
          if word.getLsbD 21 then .slotWrite slot offset width data else .slotRead slot offset width) ∧
      (∀ r : ControlReg, address = 0x80000 + r.offset.toNat → width = .word →
        (word.getLsbD 21 = true → r.writable = true → decodeRequest word data = .writeReg r data) ∧
        (word.getLsbD 21 = false → r.readable = true → decodeRequest word data = .readReg r)) ∧
      (∀ offset : BitVec 8, address = 0x80000 + offset.toNat →
        (width = .byte ∨
          ∀ r : ControlReg, r.offset = offset → (if word.getLsbD 21 then r.writable else r.readable) = false) →
        decodeRequest word data = .badAddress))

/-- A request of host `h` reaches no other port's items, except that an accepted configuration write sets CONFIG_CHANGED
flags; where it changes no configuration item it leaves the other hosts' records as they are; and it reaches neither the
arbiter, the sequencer, the P-bus, the timebase nor a reset or attention line. An UP port answers it, a DOWN one does not
(R17, R139, R160, R162, R167). -/
def Obligations.RequestReachesItsOwnPort : Prop :=
  ∀ c h word data s t, c.request = some (h, word, data) → exec c s = .next t →
    (∀ g, g ≠ h →
      t.port g = { s.port g with changed := (t.port g).changed } ∧
      ((t.port g).changed = (s.port g).changed ∨ (t.port g).changed = some h) ∧
      (t.cfg = s.cfg → t.lane g = s.lane g)) ∧
    (t.port h).answer.isSome = (s.port h).up ∧
    t.arbiter = s.arbiter ∧ t.sequencer = s.sequencer ∧ t.bus = s.bus ∧ t.timebase = s.timebase ∧
    t.grst = s.grst ∧ t.patn = s.patn ∧ t.samples = s.samples ∧ t.pending = s.pending

/-! ## Control window -/

/-- PORT_STATUS answers the first word and latches the second, with the six values of that moment in their fields (R25,
R124, R171, R178). The premises are invariants of the model, each stated below. -/
def Obligations.PortStatusTakesSixValues : Prop :=
  ∀ h s, (s.port h).up = true → s.PoolWithin → s.QueuesSound → s.ConfigLegal →
    ∃ first second : Word,
      exec (.portStatus h .word 0x00#8) s =
        .next (answering (s.modPort h fun p => { p with latch := second }) h (.data first)) ∧
      first.toNat = s.held h + 64 * s.doneCount h + 4096 * (s.port h).queue.length ∧
      s.held h ≤ 32 ∧ s.doneCount h ≤ 32 ∧ (s.port h).queue.length ≤ 8 ∧
      second.toNat =
        (s.cfg.quota[h]).toNat + 256 * (s.port h).epoch.toNat + 32768 * (s.port h).nline.toNat ∧
      1 ≤ (s.cfg.quota[h]).toNat ∧ (s.cfg.quota[h]).toNat ≤ 32

/-- The registers that only report answer their value and change nothing: the second status word, THRESHOLD, CFG_INDEX,
CFG_DATA, CFG_EXPECT and CFG_GEN. Writes of CFG_INDEX and CFG_EXPECT take every value (R122, R128, R130, R131, R176,
R178). That these reads are forms of PORT_STATUS is the model's choice (assumption 2). -/
def Obligations.ControlRegistersReadAndWrite : Prop :=
  ∀ h s, (s.port h).up = true →
    exec (.portStatus h .word 0x02#8) s = .next (answering s h (.data (s.port h).latch)) ∧
    exec (.portStatus h .word 0x0E#8) s = .next (answering s h (.data (0#14 ++ (s.port h).threshold))) ∧
    exec (.portStatus h .word 0x40#8) s = .next (answering s h (.data (s.port h).cfgIndex)) ∧
    exec (.portStatus h .word 0x44#8) s = .next (answering s h (.data (s.port h).cfgExpect)) ∧
    exec (.portStatus h .word 0x48#8) s = .next (answering s h (.data s.cfg.generation)) ∧
    (∀ item, Names s h item →
      exec (.portStatus h .word 0x42#8) s = .next (answering s h (.data (s.cfg.read item)))) ∧
    ((∀ item, ¬ Names s h item) →
      exec (.portStatus h .word 0x42#8) s = .next (answering s h (.fault .badAddress))) ∧
    ∀ value,
      exec (.registerWrite h .word 0x40#8 value) s =
        .next (answering (s.modPort h fun p => { p with cfgIndex := value }) h .accept) ∧
      exec (.registerWrite h .word 0x44#8 value) s =
        .next (answering (s.modPort h fun p => { p with cfgExpect := value }) h .accept)

/-- The four head registers carry the head notice's fields in their bits, with 0 in every other bit, and 0 where the
queue is empty; the reads change nothing (R179). -/
def Obligations.HeadRegistersCarryTheHeadNotice : Prop :=
  ∀ h s, (s.port h).up = true → s.RoundsWithin → ∀ i : Fin 4,
    ∃ w : Word,
      exec (.portStatus h .word (ControlReg.head i).offset) s = .next (answering s h (.data w)) ∧
      ((s.port h).queue = [] → w = 0#16) ∧
      ∀ n rest, (s.port h).queue = n :: rest → w.toNat = headNumber n i

/-- A write of THRESHOLD takes 1, 2 and 3 and evaluates the notice line with the new value; every other value is refused
(R122, R123, R176). -/
def Obligations.ThresholdWrite : Prop :=
  ∀ h value s, (s.port h).up = true →
    exec (.threshold h value) s =
      .next
        (if 1 ≤ value.toNat ∧ value.toNat ≤ 3 then
          answering
            (s.modPort h fun p =>
              { p with
                threshold := value.setWidth 2
                nline := p.queue.any fun n => decide (value.toNat ≤ n.priority.toNat) })
            h .accept
        else answering s h (.fault .badValue))

/-- A pop removes the head and evaluates the notice line, or answers FAULT(QUEUE_EMPTY); the value is ignored (R121,
R123). -/
def Obligations.PopRemovesTheHead : Prop :=
  ∀ h value s, (s.port h).up = true →
    ((s.port h).queue = [] → exec (.noticePop h value) s = .next (answering s h (.fault .queueEmpty))) ∧
    ∀ n rest, (s.port h).queue = n :: rest →
      exec (.noticePop h value) s =
        .next
          (answering
            (s.modPort h fun p =>
              { p with queue := rest, nline := rest.any fun m => decide (p.threshold ≤ m.priority) })
            h .accept)

/-! ## Request pool -/

/-- A slot read that finds its record: a DONE one is collected and freed, with its data or its fault; a QUEUED or ON_BUS
one answers RETRY(PENDING) and stays. The data of a BYTE read have their upper eight bits 0, by an invariant of the model
stated below (R9, R10, R12). -/
def Obligations.SlotReadFindsItsRecord : Prop :=
  ∀ h slot offset width s a r b, (s.port h).up = true → s.pool = a ++ r :: b →
    Matches h slot offset width r → (∀ x ∈ a, ¬ Matches h slot offset width x) →
    (∀ w timer, r.state = .done (.data w) timer →
      exec (.slotRead h slot offset width) s = .next (answering { s with pool := a ++ b } h (.data w)) ∧
      (r.Sound → width = .byte → w.toNat < 256)) ∧
    (∀ fault timer, r.state = .done (.fault fault) timer →
      exec (.slotRead h slot offset width) s =
        .next (answering { s with pool := a ++ b } h (.fault fault.faultCode))) ∧
    ((r.state = .queued ∨ r.state = .onBus false) →
      exec (.slotRead h slot offset width) s = .next (answering s h (.retry .pending)))

/-- A slot read without a record: alignment, slot off, immediate line hit, and admission, in this order (R7, R10, R11,
R76). -/
def Obligations.SlotReadWithoutRecord : Prop :=
  ∀ h slot offset width s, (s.port h).up = true → (∀ x ∈ s.pool, ¬ Matches h slot offset width x) →
    let misaligned := width = .word ∧ offset.getLsbD 0 = true
    let enabled := (s.cfg.mode[slot]).getLsbD 0 = true
    let prefetchable := (s.cfg.mode[slot]).getLsbD 2 = true
    let writing := ∃ x ∈ s.pool, x.host = h ∧ PendingWrite x
    (misaligned → exec (.slotRead h slot offset width) s = .next (answering s h (.fault .align))) ∧
    (¬ misaligned → ¬ enabled →
      exec (.slotRead h slot offset width) s = .next (answering s h (.fault .slotOff))) ∧
    (¬ misaligned → enabled →
      (∀ e data timer, prefetchable → ¬ writing → s.lines.TagsUnique →
        s.entry e = .valid slot (lineBase offset) data timer →
        ∃ w : Word, w.toNat = lineNumber data offset width ∧
          exec (.slotRead h slot offset width) s =
            .next (answering { s with lines := hitLines s.lines e } h (.data w))) ∧
      ((¬ prefetchable ∨ writing ∨ ∀ e data timer, s.entry e ≠ .valid slot (lineBase offset) data timer) →
        ((s.cfg.quota[h]).toNat ≤ s.held h →
          exec (.slotRead h slot offset width) s = .next (answering s h (.retry .quotaFull))) ∧
        (s.held h < (s.cfg.quota[h]).toNat → 32 ≤ s.pool.length →
          exec (.slotRead h slot offset width) s = .next (answering s h (.retry .poolFull))) ∧
        (s.held h < (s.cfg.quota[h]).toNat → s.pool.length < 32 →
          exec (.slotRead h slot offset width) s =
            .next
              (answering
                { s with
                  pool :=
                    s.pool ++
                      [{ kind := .read, slot := slot, offset := offset, width := width, host := h
                         epoch := (s.port h).epoch, state := .queued }] }
                h (.retry .pending)))))

/-- A slot write: alignment, slot off, admission; an admitted write joins the tail of the pool with its width's part of
the data and spoils the line it overlaps, before its ACCEPT (R1, R7, R8, R74). -/
def Obligations.SlotWriteIsAdmittedOrRefused : Prop :=
  ∀ h slot offset width data s, (s.port h).up = true →
    let misaligned := width = .word ∧ offset.getLsbD 0 = true
    let enabled := (s.cfg.mode[slot]).getLsbD 0 = true
    (misaligned → exec (.slotWrite h slot offset width data) s = .next (answering s h (.fault .align))) ∧
    (¬ misaligned → ¬ enabled →
      exec (.slotWrite h slot offset width data) s = .next (answering s h (.fault .slotOff))) ∧
    (¬ misaligned → enabled →
      ((s.cfg.quota[h]).toNat ≤ s.held h →
        exec (.slotWrite h slot offset width data) s = .next (answering s h (.retry .quotaFull))) ∧
      (s.held h < (s.cfg.quota[h]).toNat → 32 ≤ s.pool.length →
        exec (.slotWrite h slot offset width data) s = .next (answering s h (.retry .poolFull))) ∧
      (s.held h < (s.cfg.quota[h]).toNat → s.pool.length < 32 →
        exec (.slotWrite h slot offset width data) s =
          .next
            (answering
              { s with
                pool :=
                  s.pool ++
                    [{ kind := .write (match width with | .byte => data &&& 0x00FF#16 | .word => data)
                       slot := slot, offset := offset, width := width, host := h
                       epoch := (s.port h).epoch, state := .queued }]
                lines := linesChanged s.lines (overlapped slot (lineBase offset)) }
              h .accept)))

/-- While the quotas sum to 32 or less and every held count is at or below its quota, no slot request is answered
POOL_FULL, and a host below its quota has its write accepted (R6). -/
def Obligations.QuotaShareIsFree : Prop :=
  ∀ s : State,
    (s.cfg.quota[0]).toNat + (s.cfg.quota[1]).toNat + (s.cfg.quota[2]).toNat + (s.cfg.quota[3]).toNat ≤ 32 →
    (∀ g, s.held g ≤ (s.cfg.quota[g]).toNat) →
    ∀ h slot offset width data t u,
      exec (.slotRead h slot offset width) s = .next t → exec (.slotWrite h slot offset width data) s = .next u →
      (t.port h).answer ≠ some (.retry .poolFull) ∧ (u.port h).answer ≠ some (.retry .poolFull) ∧
      ((s.port h).up = true → s.held h < (s.cfg.quota[h]).toNat → (s.cfg.mode[slot]).getLsbD 0 = true →
        ¬ (width = .word ∧ offset.getLsbD 0 = true) → (u.port h).answer = some .accept)

/-- CANCEL_READS frees the host's QUEUED and DONE reads, marks its ON_BUS read abandoned, and touches nothing else; the
value is ignored (R17). -/
def Obligations.CancelReadsFreesReads : Prop :=
  ∀ h value s, (s.port h).up = true →
    exec (.cancelReads h value) s =
      .next
        (answering
          { s with
            pool :=
              s.pool.filterMap fun r =>
                if r.host = h ∧ r.kind = .read then
                  match r.state with
                  | .queued => none
                  | .done _ _ => none
                  | .onBus _ => some { r with state := .onBus true }
                  | .failed fault partialWrite => some { r with state := .failed fault partialWrite }
                  | .orphaned => some { r with state := .orphaned }
                else some r }
          h .accept)

/-- An expiry is taken where its timer has reached 0: a DONE read becomes ORPHANED, a VALID line INVALID (R16, R78). Where
no such timer stands at 0 nothing changes: R154, and the model's choice of assumption 6. -/
def Obligations.ExpiriesOfReadsAndLines : Prop :=
  ∀ s : State,
    (∀ h slot offset width,
      let expired := fun r : Record => Matches h slot offset width r ∧ ∃ result, r.state = .done result 0
      (∀ a r b, s.pool = a ++ r :: b → expired r → (∀ x ∈ a, ¬ expired x) →
        exec (.collectionTimerExpiry h slot offset width) s =
          .next { s with pool := a ++ { r with state := .orphaned } :: b }) ∧
      ((∀ x ∈ s.pool, ¬ expired x) → exec (.collectionTimerExpiry h slot offset width) s = .next s)) ∧
    ∀ e : EntryId,
      (∀ slot base data, s.entry e = .valid slot base data 0 →
        exec (.lifetimeExpiry e) s = .next { s with lines := linesDropped s.lines e }) ∧
      ((∀ slot base data, s.entry e ≠ .valid slot base data 0) → exec (.lifetimeExpiry e) s = .next s)

/-- Whatever the command, the records that stay keep their host, epoch, kind, slot, offset, width, data and order, and at
most one record joins, at the tail. So every lane keeps its admission order (R1, R4, R27, R28). -/
def Obligations.LanesKeepAdmissionOrder : Prop :=
  ∀ c s t, exec c s = .next t →
    ∃ kept new, t.pool.map identity = kept ++ new ∧ kept.Sublist (s.pool.map identity) ∧ new.length ≤ 1

/-! ## Transfer arbiter and bus sequencer -/

/-- The grant of a selection: the holder keeps it while eligible with quantum left, otherwise the first eligible host
after it in cyclic order takes it with a fresh quantum; with no holder the search begins at H0. The quantum is lowered by
one (R30, R31, R33, R34, R35). While the sequencer is busy, or while no record is QUEUED, no selection is taken: a
SELECTION then changes nothing (R32, and the model's choice of assumption 6). -/
def Obligations.SelectionGrantsRoundRobin : Prop :=
  ∀ s : State,
    let eligible := fun h : HostId => ∃ r ∈ s.pool, r.host = h ∧ r.state = .queued
    let keeps := ∃ h, s.arbiter.holder = some h ∧ eligible h ∧ 1 ≤ s.arbiter.quantum
    let start : HostId := s.arbiter.holder.getD 3 + 1
    (s.sequencer ≠ none ∨ (∀ h, ¬ eligible h) → exec .selection s = .next s) ∧
    (s.sequencer = none → (∃ h, eligible h) →
      ∃ t g q, exec .selection s = .next t ∧ t.arbiter = { holder := some g, quantum := q - 1 } ∧
        (keeps → s.arbiter.holder = some g ∧ q = s.arbiter.quantum) ∧
        (¬ keeps →
          q = 2 ^ (s.cfg.arbQuantum.toNat % 4) ∧ eligible g ∧
          ∃ d : Fin 4, g = start + d ∧ ∀ d' : Fin 4, d' < d → ¬ eligible (start + d')))

/-- A selection whose record a VALID line covers completes it from the line, without the P-bus: DONE with the line's data
and its collection timer started; the line is the most recent (R35, R36, R76). -/
def Obligations.SelectionCompletesFromALine : Prop :=
  ∀ s g q a r b e data timer, s.sequencer = none → s.grant = some (g, q) → s.pool = a ++ r :: b →
    r.host = g → r.state = .queued → (∀ x ∈ a, ¬ (x.host = g ∧ x.state = .queued)) →
    r.kind = .read → (s.cfg.mode[r.slot]).getLsbD 2 = true → s.lines.TagsUnique →
    s.entry e = .valid r.slot (lineBase r.offset) data timer →
    ∃ w : Word, w.toNat = lineNumber data r.offset r.width ∧
      exec .selection s =
        .next
          { s with
            arbiter := { holder := some g, quantum := q - 1 }
            pool := a ++ { r with state := .done (.data w) s.cfg.collectLimit.toNat } :: b
            lines := hitLines s.lines e }

/-- A selection whose record no line covers issues it: the holder's oldest QUEUED record is ON_BUS, the profile is
latched, the first beat begins in SETUP with its pins driven, and for a fill an entry is reserved: the INVALID one with the
lowest number, else the least recent (R35, R47, R48, R51, R70). -/
def Obligations.SelectionIssuesAnOperation : Prop :=
  ∀ s g q a r b, s.sequencer = none → s.grant = some (g, q) → s.pool = a ++ r :: b →
    r.host = g → r.state = .queued → (∀ x ∈ a, ¬ (x.host = g ∧ x.state = .queued)) →
    (r.kind ≠ .read ∨ (s.cfg.mode[r.slot]).getLsbD 2 = false ∨
      ∀ e data timer, s.entry e ≠ .valid r.slot (lineBase r.offset) data timer) →
    ∃ op e,
      exec .selection s =
        .next
          { s with
            arbiter := { holder := some g, quantum := q - 1 }
            pool := a ++ { r with state := .onBus false } :: b
            sequencer := some op
            lines :=
              if op.fillLine.isSome then linesPlaced s.lines e (.filling r.slot (lineBase r.offset) false)
              else s.lines
            bus :=
              { psel := some r.slot, pstb := false, pa := op.plan.headD 0#16, pwr := decide (r.kind ≠ .read)
                pd := op.writeLanes, ppar := op.writeLanes.map op.profile.writeParity, pbrst := s.bus.pbrst } } ∧
      op.job = r.toJob ∧ op.profile = s.cfg.profile r.slot ∧ op.index = 1 ∧ op.phase = .setup ∧ op.phaseClocks = 0 ∧
      op.collected = [] ∧ op.endingFault = none ∧
      (r.kind = .read ∧ (s.cfg.mode[r.slot]).getLsbD 2 = true ∧ s.cfg.lineLife ≠ 0#16 ∧
          ¬ WritePendingInLine s r.slot (lineBase r.offset) →
        op.fillLine = some (r.slot, lineBase r.offset) ∧ op.plan = fillPlan op.profile.wide r.toJob) ∧
      (¬ (r.kind = .read ∧ (s.cfg.mode[r.slot]).getLsbD 2 = true ∧ s.cfg.lineLife ≠ 0#16 ∧
          ¬ WritePendingInLine s r.slot (lineBase r.offset)) →
        op.fillLine = none ∧
        op.plan = if op.profile.wide = false ∧ r.width = .word then [r.offset, r.offset + 1#16] else [r.offset]) ∧
      ((∃ f, s.entry f = .invalid) → s.entry e = .invalid ∧ ∀ f, f < e → s.entry f ≠ .invalid) ∧
      ((∀ f, s.entry f ≠ .invalid) → s.lines.RecencySound → s.lines.recency.getLast? = some e)

/-- The plan of a fill holds every beat of the record's line once, ascending, beginning at the critical beat and wrapping
from the line's end to its base (R50). -/
def Obligations.FillPlanCoversTheLine : Prop :=
  ∀ (wide : Bool) (job : Job),
    let plan := fillPlan wide job
    let stride : Word := if wide then 2#16 else 1#16
    plan.length = (if wide then 8 else 16) ∧ plan.Nodup ∧
    (∀ o, o ∈ plan ↔ lineBase o = lineBase job.offset ∧ (wide = true → o.getLsbD 0 = false)) ∧
    plan.head? = some (if wide then job.offset &&& 0xFFFE#16 else job.offset) ∧
    ∀ i x y, plan[i]? = some x → plan[i + 1]? = some y →
      y = if lineBase (x + stride) = lineBase job.offset then x + stride else lineBase job.offset

/-- The phases of a beat: the strobe after SETUP, the ready wait after a strobe period without ready, the ends by decline
and by the ready limit, and the next beat of the plan after a successful one (R51, R52, R53, R56). An event of a beat outside
its phase is not acted on: with the bus at rest none is (R66), and in another phase, or at a RECOVERY_END on the last or a
faulted beat, nothing changes (the model's choice of assumption 6). -/
def Obligations.BeatPhases : Prop :=
  (∀ s, s.sequencer = none → ∀ pdcl prdy lanes ppar,
    exec (.setupEnd pdcl) s = .next s ∧ exec (.strobePeriodEnd prdy lanes ppar) s = .next s ∧
    exec (.ready lanes ppar) s = .next s ∧ exec .decline s = .next s ∧ exec .readyLimitExpiry s = .next s ∧
    exec .recoveryEnd s = .next s) ∧
  ∀ s op, s.sequencer = some op →
    (op.phase ≠ .setup → ∀ pdcl, exec (.setupEnd pdcl) s = .next s) ∧
    (op.phase ≠ .strobe → ∀ prdy lanes ppar, exec (.strobePeriodEnd prdy lanes ppar) s = .next s) ∧
    (op.phase ≠ .readyWait →
      (∀ lanes ppar, exec (.ready lanes ppar) s = .next s) ∧ exec .readyLimitExpiry s = .next s) ∧
    (op.phase ≠ .strobe → op.phase ≠ .readyWait → exec .decline s = .next s) ∧
    (op.phase ≠ .recovery ∨ op.endingFault ≠ none ∨ op.plan.length ≤ op.index →
      exec .recoveryEnd s = .next s) ∧
    (op.phase = .setup →
      exec (.setupEnd false) s =
        .next
          { s with
            sequencer := some { op with phase := .strobe, phaseClocks := 0 }
            bus := { s.bus with pstb := true } } ∧
      exec (.setupEnd true) s = .next (inRecovery s op op.collected (some (.busDeclined, op.index)))) ∧
    (op.phase = .strobe → op.profile.readyLimit ≠ 0 → ∀ lanes ppar,
      exec (.strobePeriodEnd false lanes ppar) s =
        .next { s with sequencer := some { op with phase := .readyWait, phaseClocks := 0 } }) ∧
    (op.phase = .strobe ∨ op.phase = .readyWait →
      exec .decline s = .next (inRecovery s op op.collected (some (.busDeclined, op.index)))) ∧
    (op.phase = .readyWait →
      exec .readyLimitExpiry s = .next (inRecovery s op op.collected (some (.busTimeout, op.index)))) ∧
    (op.phase = .recovery → op.endingFault = none → op.index < op.plan.length →
      let following := { op with index := op.index + 1, phase := .setup, phaseClocks := 0 }
      exec .recoveryEnd s =
        .next
          { s with
            sequencer := some following
            bus :=
              { psel := some op.job.slot, pstb := false, pa := op.plan.getD op.index 0#16
                pwr := decide (op.job.kind ≠ .read), pd := following.writeLanes
                ppar := following.writeLanes.map op.profile.writeParity, pbrst := s.bus.pbrst } })

/-- The transfer of a beat is taken at the end of the strobe period with ready limit 0 or with PRDY given, or when PRDY is
given in the ready wait. A write beat succeeds. A read beat is sampled: with the parity the profile asks for, its bytes
are collected; without it, the beat ends BUS_PARITY (R52, R54, R55, R56). -/
def Obligations.TransferIsTakenAndSampled : Prop :=
  ∀ s op lanes ppar c, s.sequencer = some op →
    ((op.phase = .strobe ∧ ∃ prdy, c = .strobePeriodEnd prdy lanes ppar ∧
        (op.profile.readyLimit = 0 ∨ prdy = true)) ∨
      (op.phase = .readyWait ∧ c = .ready lanes ppar)) →
    let o := op.plan.getD (op.index - 1) 0#16
    let low : Word × Byte := (o, lanes.extractLsb' 0 8)
    let high : Word × Byte := (o + 1#16, lanes.extractLsb' 8 8)
    (op.job.kind ≠ .read → exec c s = .next (inRecovery s op op.collected none)) ∧
    (op.job.kind = .read → ¬ ParityHolds op.profile lanes ppar →
      exec c s = .next (inRecovery s op op.collected (some (.busParity, op.index)))) ∧
    (op.job.kind = .read → ParityHolds op.profile lanes ppar →
      exec c s =
        .next
          (inRecovery s op
            (op.collected ++
              if op.profile.wide = true ∧ (op.fillLine.isSome = true ∨ op.job.width = .word) then [low, high]
              else [low])
            none))

/-- The lanes and the parity that the gateway drives on a write beat: the record's byte or word on a 16-bit slot, the low
byte and then the high byte on an 8-bit slot, and a PPAR that makes the slot's parity hold, low without parity (R49,
R55). -/
def Obligations.WriteBeatDrivesDataAndParity : Prop :=
  ∀ (op : Operation) (data : Word), op.job.kind = .write data →
    (op.profile.wide = true → op.job.width = .word → op.writeLanes = some data) ∧
    (op.profile.wide = true → op.job.width = .byte → op.writeLanes = some (data &&& 0x00FF#16)) ∧
    (op.profile.wide = false → op.index = 1 → op.writeLanes = some (data &&& 0x00FF#16)) ∧
    (op.profile.wide = false → op.index = 2 → op.writeLanes = some (data >>> 8)) ∧
    ∀ lanes, (op.profile.parity = .none → op.profile.writeParity lanes = false) ∧
      (op.profile.parity ≠ .none → ParityHolds op.profile lanes (op.profile.writeParity lanes))

/-- The completion of a single access: a READ is DONE with its collected data or with the fault, or freed where it is
abandoned; a WRITE is freed, or FAILED with its fault and the partial field. The sequencer is IDLE (R14, R15, R57, R58,
R62). Before the RECOVERY of a last or faulted beat, and while the sequencer is IDLE, no completion is taken: a COMPLETION
changes nothing (R56, and the model's choice of assumption 6). -/
def Obligations.CompletionOfAnAccess : Prop :=
  (∀ s,
    (∀ op, s.sequencer = some op →
      op.phase ≠ .recovery ∨ (op.endingFault = none ∧ op.index < op.plan.length)) →
    exec .completion s = .next s) ∧
  ∀ s op a r b abandoned, s.sequencer = some op → op.phase = .recovery → op.fillLine = none →
    (op.endingFault ≠ none ∨ op.plan.length ≤ op.index) →
    s.pool = a ++ r :: b → r.state = .onBus abandoned →
    (∀ x ∈ a ++ b, ∀ y, x.state ≠ .onBus y) →
    let completed := fun pool => exec .completion s = .next { s with sequencer := none, pool := pool }
    (r.kind = .read → abandoned = true → completed (a ++ b)) ∧
    (r.kind = .read → abandoned = false → op.endingFault = none →
      ∃ w : Word, w.toNat = collectedNumber op ∧
        completed (a ++ { r with state := .done (.data w) s.cfg.collectLimit.toNat } :: b)) ∧
    (∀ fault i, r.kind = .read → abandoned = false → op.endingFault = some (fault, i) →
      completed (a ++ { r with state := .done (.fault fault) s.cfg.collectLimit.toNat } :: b)) ∧
    (r.kind ≠ .read → op.endingFault = none → completed (a ++ b)) ∧
    (∀ fault i, r.kind ≠ .read → op.endingFault = some (fault, i) →
      completed
        (a ++
          { r with
            state :=
              .failed fault
                (if op.profile.wide then none else some (decide (op.job.width = .word ∧ i = 2))) } :: b))

/-- The completion of a fill: the record has its critical data, or the fault of a critical beat; the line is kept only
where every beat succeeded, the entry is not poisoned, no write is pending into the line and LINE_LIFE is not 0 (R14, R59,
R60, R61, R62, R72, R73). -/
def Obligations.CompletionOfAFill : Prop :=
  ∀ s op slot base e poisoned a r b abandoned, s.sequencer = some op → op.phase = .recovery →
    op.fillLine = some (slot, base) → (op.endingFault ≠ none ∨ op.plan.length ≤ op.index) →
    s.entry e = .filling slot base poisoned → s.lines.TagsUnique →
    s.pool = a ++ r :: b → r.kind = .read → r.state = .onBus abandoned →
    (∀ x ∈ a ++ b, ∀ y, x.state ≠ .onBus y) →
    let critical := if op.profile.wide = false ∧ op.job.width = .word then 2 else 1
    let lost := op.endingFault ≠ none ∨ poisoned = true ∨ WritePendingInLine s slot base ∨ s.cfg.lineLife = 0#16
    ∃ t, exec .completion s = .next t ∧
      t = { s with sequencer := none, pool := t.pool, lines := t.lines } ∧
      (abandoned = true → t.pool = a ++ b) ∧
      (∀ fault i, abandoned = false → op.endingFault = some (fault, i) → i ≤ critical →
        t.pool = a ++ { r with state := .done (.fault fault) s.cfg.collectLimit.toNat } :: b) ∧
      (abandoned = false → (∀ fault i, op.endingFault = some (fault, i) → critical < i) →
        ∃ w : Word, w.toNat = collectedNumber op ∧
          t.pool = a ++ { r with state := .done (.data w) s.cfg.collectLimit.toNat } :: b) ∧
      (lost → t.lines = linesDropped s.lines e) ∧
      (¬ lost →
        t.lines =
          linesPlaced s.lines e
            (.valid slot base (Vector.ofFn fun i : Fin 16 => op.byteAt (base + BitVec.ofNat 16 i.val))
              s.cfg.lineLife.toNat))

/-- A fill that has ended without a fault has collected every byte of its line exactly once, so the line it leaves is
whole (R50, R54, R59, R73). -/
def Obligations.FinishedFillHasEveryByte : Prop :=
  ∀ op : Operation, op.Sound → ∀ slot base, op.fillLine = some (slot, base) → op.phase = .recovery →
    op.endingFault = none → op.index = op.plan.length →
    ∀ i : Fin 16, (op.collected.map Prod.fst).count (base + BitVec.ofNat 16 i.val) = 1

/-- A WORD read on an 8-bit slot: its two beats, run to the completion, make the record DONE with the first beat's byte
low and the second beat's byte high (R49, R51 to R57, R62). -/
def Obligations.WordReadOnAnEightBitSlot : Prop :=
  ∀ s op a r b o first second p q, s.sequencer = some op → op.phase = .setup → op.index = 1 →
    op.plan = [o, o + 1#16] → op.job.kind = .read → op.job.offset = o → op.job.width = .word →
    op.profile.wide = false → op.profile.parity = .none → op.profile.readyLimit = 0 → op.fillLine = none →
    op.collected = [] → op.endingFault = none →
    s.pool = a ++ r :: b → r.kind = .read → r.state = .onBus false → (∀ x ∈ a ++ b, ∀ y, x.state ≠ .onBus y) →
    ∃ t, RunsTo
        [.setupEnd false, .strobePeriodEnd false first p, .recoveryEnd, .setupEnd false,
          .strobePeriodEnd false second q, .completion] s t ∧
      t.sequencer = none ∧ t.lines = s.lines ∧ t.bus.AtRest ∧ t.bus.pa = o + 1#16 ∧
      t.pool =
        a ++
          { r with
            state :=
              .done (.data (second.extractLsb' 0 8 ++ first.extractLsb' 0 8)) s.cfg.collectLimit.toNat } :: b

/-! ## Configuration set -/

/-- CFG_INDEX names the items of the set at their indexes and nothing at any other (R128). -/
def Obligations.IndexNamesTheItem : Prop :=
  ∀ (index : Word) (item : Item), itemAt index = some item ↔ index.toNat = itemIndex item

/-- The legal values of each item, and the refusal of every other value by both kinds of write (R129). -/
def Obligations.IllegalValuesAreRefused : Prop :=
  (∀ (item : Item) (v : Word), item.legal v = true ↔ LegalNumber v.toNat item) ∧
  ∀ h v s item, (s.port h).up = true → Names s h item → ¬ LegalNumber v.toNat item →
    exec (.cfgDataWrite h v) s = .next (answering s h (.fault .badValue)) ∧
    exec (.cfgCdataWrite h v) s = .next (answering s h (.fault .badValue))

/-- The writes of the set that are refused for their index or generation, and what an accepted write stores: the item and
no other, the generation one higher, the CONFIG_CHANGED flags of the other UP subscribers as CFG_SUBSCRIBERS stood before
it. An item that is no profile or route word changes nothing else (R132, R133, R135, R136, R139, R140, R141). -/
def Obligations.ConfigurationWrites : Prop :=
  ∀ h v s, (s.port h).up = true →
    ((∀ item, ¬ Names s h item) →
      exec (.cfgDataWrite h v) s = .next (answering s h (.fault .badAddress)) ∧
      exec (.cfgCdataWrite h v) s = .next (answering s h (.fault .badAddress))) ∧
    ∀ item, Names s h item → item.legal v = true →
      ((s.port h).cfgExpect ≠ s.cfg.generation →
        exec (.cfgCdataWrite h v) s = .next (answering s h (.fault .staleGeneration))) ∧
      ∃ t, exec (.cfgDataWrite h v) s = .next t ∧
        ((s.port h).cfgExpect = s.cfg.generation → exec (.cfgCdataWrite h v) s = .next t) ∧
        t.cfg.read item = v ∧ (∀ other, other ≠ item → t.cfg.read other = s.cfg.read other) ∧
        t.cfg.generation = s.cfg.generation + 1#16 ∧
        (∀ g,
          t.port g =
            { s.port g with
              changed :=
                if g ≠ h ∧ (s.port g).up = true ∧ s.cfg.subscribers.getLsbD g.val = true then some h
                else (s.port g).changed
              answer := if g = h then some .accept else (s.port g).answer }) ∧
        t.arbiter = s.arbiter ∧ t.sequencer = s.sequencer ∧ t.bus = s.bus ∧ t.timebase = s.timebase ∧
        t.grst = s.grst ∧ t.patn = s.patn ∧ t.samples = s.samples ∧ t.pending = s.pending ∧
        ((∀ slot, item ≠ .mode slot) → t.pool = s.pool) ∧
        ((∀ slot, item ≠ .mode slot ∧ item ≠ .timingA slot ∧ item ≠ .timingB slot) → t.lines = s.lines) ∧
        ((∀ n, item ≠ .routeA n) → t.sources = s.sources)

/-- An accepted write of a profile word clears the lines of its slot, whatever the value; a mode word with enable no also
completes the QUEUED records of the slot, of every host, with SLOT_OFF (R21, R81, R142). The partial field follows the
width in the word written, which is the model's reading in assumption 11. -/
def Obligations.ProfileWriteClearsAndDisables : Prop :=
  ∀ h v s slot item t, (s.port h).up = true → Names s h item → item.legal v = true →
    (item = .mode slot ∨ item = .timingA slot ∨ item = .timingB slot) → exec (.cfgDataWrite h v) s = .next t →
    t.lines = linesChanged s.lines (reprofiled slot) ∧
    (item = .mode slot → v.getLsbD 0 = false →
      t.pool =
        s.pool.map fun r =>
          if r.slot = slot ∧ r.state = .queued then
            match r.kind with
            | .read => { r with state := .done (.fault .slotOff) s.cfg.collectLimit.toNat }
            | .write _ => { r with state := .failed .slotOff (if v.getLsbD 1 then none else some false) }
          else r) ∧
    (item ≠ .mode slot ∨ v.getLsbD 0 = true → t.pool = s.pool)

/-- A write of the set that is refused changes nothing but the answer on the writer's link (R134). -/
def Obligations.RefusedWriteChangesNothing : Prop :=
  ∀ c h v s t code, c = .cfgDataWrite h v ∨ c = .cfgCdataWrite h v → exec c s = .next t →
    (t.port h).answer = some (.fault code) →
    (code = .badAddress ∨ code = .badValue ∨ code = .staleGeneration) ∧ t = answering s h (.fault code)

/-- Two conditional writes against one expected generation are never both accepted: once the first is, the second is
refused STALE_GENERATION if its index and value pass the earlier tests (R133, R138). -/
def Obligations.ConditionalWritesExclude : Prop :=
  ∀ s t u h g v w, (s.port h).cfgExpect = (s.port g).cfgExpect →
    exec (.cfgCdataWrite h v) s = .next t → (t.port h).answer = some .accept →
    exec (.cfgCdataWrite g w) t = .next u →
    (u.port g).answer ≠ some .accept ∧
    (∀ item, (t.port g).up = true → Names t g item → item.legal w = true →
      u = answering t g (.fault .staleGeneration))

/-- Only an accepted write of the set changes it, by one item and one step of the generation, and gateway reset, which
resets it; no other command touches an item or the generation (R128, R136, R141, R145, R147). -/
def Obligations.OnlyAcceptedWritesChangeTheSet : Prop :=
  ∀ c s t, exec c s = .next t →
    t.cfg = s.cfg ∨ (c = .gatewayReset ∧ t.cfg = ConfigSet.reset) ∨
    ∃ h word v item, c.request = some (h, word, v) ∧
      (decodeRequest word v = .writeReg .cfgData v ∨ decodeRequest word v = .writeReg .cfgCdata v) ∧
      (s.port h).up = true ∧ Names s h item ∧ item.legal v = true ∧ (t.port h).answer = some .accept ∧
      t.cfg = { s.cfg.store v item with generation := s.cfg.generation + 1#16 }

/-! ## Attention sources -/

/-- A claim is answered DATA with the claim result word of R177, and only a RAISED source that the host subscribes is
granted: it is CLAIMED by the host, with its hold timer and without an owed entry (R177; the cases are R94's). -/
def Obligations.ClaimResultWords : Prop :=
  ∀ h n s, (s.port h).up = true →
    let route := s.cfg.route n
    let subscribed := route.subscribers.getLsbD h.val = true
    (¬ subscribed → exec (.claim h n) s = .next (answering s h (.data 0x0005#16))) ∧
    (subscribed →
      ((s.source n).state = .idle → exec (.claim h n) s = .next (answering s h (.data 0x0004#16))) ∧
      (∀ round timer, (s.source n).state = .raised round timer →
        exec (.claim h n) s =
          .next
            (answering
              (s.modSource n fun src =>
                { src with
                  state := .claimed h (if route.holdTimeout = 0 then none else some route.holdTimeout)
                  owed := Vector.replicate 4 none })
              h (.data 0x0001#16))) ∧
      (∀ timer, (s.source n).state = .claimed h timer →
        exec (.claim h n) s = .next (answering s h (.data 0x0002#16))) ∧
      (∀ g timer, g ≠ h → (s.source n).state = .claimed g timer →
        exec (.claim h n) s = .next (answering s h (.data (BitVec.ofNat 16 (3 + 256 * g.val))))) ∧
      ((s.source n).state = .stuck → exec (.claim h n) s = .next (answering s h (.data 0x0006#16)))) ∧
    ∃ t w, exec (.claim h n) s = .next t ∧ (t.port h).answer = some (.data w) ∧ w ≠ 0x0000#16 ∧ w ≠ 0x0007#16

/-- Two hosts are never both granted one source: after a grant to `h` a claim by another host is answered HELD with `h`'s
number, or NOT_SUBSCRIBED, and changes nothing (R94, R95). -/
def Obligations.ClaimsExclude : Prop :=
  ∀ s t h g n, h ≠ g → exec (.claim h n) s = .next t → (t.port h).answer = some (.data 0x0001#16) →
    (t.port g).up = true →
    exec (.claim g n) t =
      .next
        (answering t g
          (.data
            (if (t.cfg.route n).subscribers.getLsbD g.val then BitVec.ofNat 16 (3 + 256 * h.val) else 0x0005#16)))

/-- RELEASE by the holder releases the source; REARM by a subscriber takes a STUCK source out of STUCK without its owed
entries, and changes nothing otherwise. Other values and other hosts are refused (R96, R97, R101). -/
def Obligations.ReleaseAndRearm : Prop :=
  ∀ h value s, (s.port h).up = true →
    (8 ≤ value.toNat →
      exec (.release h value) s = .next (answering s h (.fault .badValue)) ∧
      exec (.rearm h value) s = .next (answering s h (.fault .badValue))) ∧
    ∀ n : SourceId, value.toNat = n.val →
      let route := s.cfg.route n
      let up := fun g => (s.port g).up
      (∀ timer, (s.source n).state = .claimed h timer →
        exec (.release h value) s =
          .next (answering (s.modSource n fun src => released src route up) h .accept)) ∧
      ((∀ timer, (s.source n).state ≠ .claimed h timer) →
        exec (.release h value) s = .next (answering s h (.fault .notHolder))) ∧
      (route.subscribers.getLsbD h.val = false →
        exec (.rearm h value) s = .next (answering s h (.fault .notSubscribed))) ∧
      (route.subscribers.getLsbD h.val = true → (s.source n).state = .stuck →
        exec (.rearm h value) s =
          .next
            (answering
              (s.modSource n fun src => released { src with owed := Vector.replicate 4 none } route up) h .accept)) ∧
      (route.subscribers.getLsbD h.val = true → (s.source n).state ≠ .stuck →
        exec (.rearm h value) s = .next (answering s h .accept))

/-- A change of an attention line: active raises an IDLE source with a subscriber and is recorded otherwise; inactive
returns a RAISED source to IDLE without its owed entries. A level that stands is no change (assumption 6), and while
gateway reset is asserted the source does not act on it (R93, R109). -/
def Obligations.AttentionLineChanges : Prop :=
  ∀ n s,
    let route := s.cfg.route n
    let up := fun g => (s.port g).up
    (s.patn[n] = true → exec (.attentionLineActive n) s = .next s) ∧
    (s.patn[n] = false → exec (.attentionLineInactive n) s = .next s) ∧
    (s.grst = true →
      exec (.attentionLineActive n) s = .next { s with patn := s.patn.set n true } ∧
      exec (.attentionLineInactive n) s = .next { s with patn := s.patn.set n false }) ∧
    (s.grst = false → s.patn[n] = false →
      exec (.attentionLineActive n) s =
        .next
          (State.modSource { s with patn := s.patn.set n true } n fun src : Source =>
            if src.state = .idle then released { src with line := true } route up
            else { src with line := true })) ∧
    (s.grst = false → s.patn[n] = true →
      exec (.attentionLineInactive n) s =
        .next
          (State.modSource { s with patn := s.patn.set n false } n fun src : Source =>
            match src.state with
            | .raised _ _ => { src with line := false, state := .idle, owed := Vector.replicate 4 none }
            | _ => { src with line := false }))

/-- The claim timeout takes a RAISED source to its next round with REPEAT owed, or to STUCK at the repeat limit; the hold
timeout takes the source from its holder with FORCED_RELEASE owed. Where no such timer stands at 0 nothing changes:
R154, and the model's choice of assumption 6 (R100, R103). -/
def Obligations.ClaimAndHoldTimeouts : Prop :=
  ∀ n s,
    let route := s.cfg.route n
    let up := fun g => (s.port g).up
    (∀ round, (s.source n).state = .raised round 0 →
      exec (.claimTimeout n) s =
        .next
          (s.modSource n fun src =>
            if round + 1 < route.repeatLimit then
              owing { src with state := .raised (round + 1) route.claimTimeout } route up (.repeated (round + 1))
            else owing { src with state := .stuck } route up .sourceStuck)) ∧
    ((∀ round, (s.source n).state ≠ .raised round 0) → exec (.claimTimeout n) s = .next s) ∧
    (∀ holder, (s.source n).state = .claimed holder (some 0) →
      exec (.holdTimeout n) s =
        .next
          (s.modSource n fun src =>
            released { src with forced := src.forced.set holder (some .holdExpired) } route up)) ∧
    ((∀ holder, (s.source n).state ≠ .claimed holder (some 0)) → exec (.holdTimeout n) s = .next s)

/-- A route change that removes the holder takes the source from it: FORCED_RELEASE with ROUTE_CHANGED is owed to it, and
the source is released by the new subscribers. One that adds a host to a RAISED or STUCK source owes that host the entry
for the state, where it is UP. One that gives an IDLE source with its line active its first subscriber raises it. A RAISED
or STUCK source without a subscriber left is IDLE. A host removed is owed no attention entry; its forced-release entries
stay, as do the entries of the hosts kept where the write does not raise the source, and the timers of a source that keeps
its state. Other sources stay (R104, R105, R106, R143). -/
def Obligations.RouteChangeMovesSubscribers : Prop :=
  ∀ h v s n t, (s.port h).up = true → Names s h (.routeA n) → Item.legal (.routeA n) v = true →
    exec (.cfgDataWrite h v) s = .next t →
    let old := s.cfg.route n
    let new := t.cfg.route n
    new = { old with
        subscribers := v.extractLsb' 0 4
        priority := v.extractLsb' 4 2
        repeatLimit := (v.extractLsb' 8 3).toNat } ∧
    (∀ m, m ≠ n → t.source m = s.source m) ∧ (t.source n).line = (s.source n).line ∧
    (old.subscribers = new.subscribers → t.source n = s.source n) ∧
    (∀ g timer, (s.source n).state = .claimed g timer → old.subscribers.getLsbD g.val = true →
      new.subscribers.getLsbD g.val = false →
      (t.source n).forced[g] = some .routeChanged ∧ (t.source n).owed[g] = none ∧
      (t.source n).state =
        (if (s.source n).line = true ∧ new.subscribers ≠ 0#4 then SourceState.raised 0 new.claimTimeout
        else .idle)) ∧
    (new.subscribers = 0#4 → old.subscribers ≠ new.subscribers →
      ((s.source n).state = .stuck ∨ ∃ round timer, (s.source n).state = .raised round timer) →
      (t.source n).state = .idle) ∧
    (old.subscribers = 0#4 → new.subscribers ≠ 0#4 → (s.source n).state = .idle → (s.source n).line = true →
      (t.source n).state = .raised 0 new.claimTimeout ∧
      ∀ g, new.subscribers.getLsbD g.val = true → (s.port g).up = true →
        (t.source n).owed[g] = some { kind := .attention 0, priority := new.priority }) ∧
    (∀ g kind, old.subscribers.getLsbD g.val = false → new.subscribers.getLsbD g.val = true →
      (s.port g).up = true → (catchUp (s.source n) = some kind) →
      (t.source n).state = (s.source n).state ∧
      (t.source n).owed[g] = some { kind := kind, priority := new.priority }) ∧
    let removed := fun g : HostId => old.subscribers.getLsbD g.val = true ∧ new.subscribers.getLsbD g.val = false
    let holderRemoved := ∃ g timer, (s.source n).state = .claimed g timer ∧ removed g
    let raised :=
      (s.source n).line = true ∧ new.subscribers ≠ 0#4 ∧
        (holderRemoved ∨ ((s.source n).state = .idle ∧ old.subscribers = 0#4))
    (∀ g, removed g → (t.source n).owed[g] = none) ∧
    (∀ g, ¬ (removed g ∧ ∃ timer, (s.source n).state = .claimed g timer) →
      (t.source n).forced[g] = (s.source n).forced[g]) ∧
    (raised →
      (t.source n).state = .raised 0 new.claimTimeout ∧
      ∀ g, new.subscribers.getLsbD g.val = true → (s.port g).up = true →
        (t.source n).owed[g] = some { kind := .attention 0, priority := new.priority }) ∧
    (¬ raised → ∀ g, ¬ removed g →
      (old.subscribers.getLsbD g.val = new.subscribers.getLsbD g.val ∨ catchUp (s.source n) = none) →
      (t.source n).owed[g] = (s.source n).owed[g]) ∧
    (∀ g, ¬ removed g → new.subscribers.getLsbD g.val = false ∨ (s.port g).up = false →
      (t.source n).owed[g] = (s.source n).owed[g]) ∧
    (¬ raised → ¬ holderRemoved →
      (new.subscribers = 0#4 → (s.source n).state = .idle ∨ ∃ g timer, (s.source n).state = .claimed g timer) →
      (t.source n).state = (s.source n).state)

/-! ## Notices -/

/-- A placement pass of an UP port ends with its queue full or with no delivery waiting, counts what it placed in the
sequence counter, and reaches no other port, no item of the set, no line and not the bus. A DOWN port takes none (R114,
R116). -/
def Obligations.PassEndsFullOrDrained : Prop :=
  ∀ s h,
    ((s.port h).up = false → exec (.placementPass h) s = .next s) ∧
    ((s.port h).up = true →
      ∃ t, exec (.placementPass h) s = .next t ∧
        (8 ≤ (t.port h).queue.length ∨ t.nextDelivery h = none) ∧
        ((s.port h).queue.length ≤ 8 → (t.port h).queue.length ≤ 8) ∧
        (s.port h).queue.Sublist (t.port h).queue ∧
        (t.port h).sequence =
          (s.port h).sequence + BitVec.ofNat 8 ((t.port h).queue.length - (s.port h).queue.length) ∧
        (∀ g, g ≠ h → t.port g = s.port g) ∧ t.cfg = s.cfg ∧ t.lines = s.lines ∧ t.arbiter = s.arbiter ∧
        t.sequencer = s.sequencer ∧ t.bus = s.bus ∧ t.timebase = s.timebase)

/-- The deliveries that a pass places, one after another: with room in the queue the pass goes on from the placement of the
oldest FAILED record, else the oldest ORPHANED one, the forced-release entry of the lowest source, the owed attention entry
of the highest priority and then lowest source, CONFIG_CHANGED; with none of them, and with the queue full, it changes
nothing more (R18, R19, R116, R117, R118). -/
def Obligations.PassPlacesByClass : Prop :=
  ∀ s h, (s.port h).up = true →
    (8 ≤ (s.port h).queue.length → exec (.placementPass h) s = .next s) ∧
    ((s.port h).queue.length < 8 →
      let failed := fun r : Record => r.host = h ∧ ∃ fault part, r.state = .failed fault part
      let orphaned := fun r : Record => r.host = h ∧ r.state = .orphaned
      let noRecord := ∀ r ∈ s.pool, ¬ failed r ∧ ¬ orphaned r
      let noForced := ∀ n, (s.source n).forced[h] = none
      let noOwed := ∀ n, (s.source n).owed[h] = none
      (∀ a r b fault part, s.pool = a ++ r :: b → r.host = h → r.state = .failed fault part →
        (∀ x ∈ a, ¬ failed x) →
        exec (.placementPass h) s =
          exec (.placementPass h)
            (placed { s with pool := a ++ b } h 3
              (.writeFailed r.slot r.offset r.width fault (part.getD false) r.epoch))) ∧
      (∀ a r b, s.pool = a ++ r :: b → (∀ x ∈ s.pool, ¬ failed x) → orphaned r → (∀ x ∈ a, ¬ orphaned x) →
        exec (.placementPass h) s =
          exec (.placementPass h) (placed { s with pool := a ++ b } h 2 (.readOrphaned r.slot r.offset r.width))) ∧
      (∀ n cause, noRecord → (s.source n).forced[h] = some cause → (∀ m, m < n → (s.source m).forced[h] = none) →
        exec (.placementPass h) s =
          exec (.placementPass h)
            (placed (s.modSource n fun src => { src with forced := src.forced.set h none }) h 2
              (.forcedRelease n cause))) ∧
      (∀ n entry, noRecord → noForced → (s.source n).owed[h] = some entry →
        (∀ m other, (s.source m).owed[h] = some other →
          other.priority < entry.priority ∨ (other.priority = entry.priority ∧ n ≤ m)) →
        exec (.placementPass h) s =
          exec (.placementPass h)
            (placed (s.modSource n fun src => { src with owed := src.owed.set h none }) h entry.priority
              (match entry.kind with
                | .attention round => .attention n round
                | .repeated round => .repeated n round
                | .sourceStuck => .sourceStuck n))) ∧
      (∀ writer, noRecord → noForced → noOwed → (s.port h).changed = some writer →
        exec (.placementPass h) s =
          exec (.placementPass h)
            (placed (s.modPort h fun p => { p with changed := none }) h 1
              (.configChanged s.cfg.generation writer))) ∧
      (noRecord → noForced → noOwed → (s.port h).changed = none → exec (.placementPass h) s = .next s))

/-- A placement puts the notice behind every notice of equal or higher priority and ahead of every lower one, in a queue
that is in order (R113). -/
def Obligations.PlacementKeepsPriorityOrder : Prop :=
  ∀ (n : Notice) (queue : List Notice), (queue.Pairwise fun a b => b.priority ≤ a.priority) →
    ∃ ahead behind, queue = ahead ++ behind ∧ insertNotice n queue = ahead ++ n :: behind ∧
      (∀ m ∈ ahead, n.priority ≤ m.priority) ∧ (∀ m ∈ behind, m.priority < n.priority) ∧
      (insertNotice n queue).Pairwise fun a b => b.priority ≤ a.priority

/-! ## Ticks -/

/-- A tick event restarts the count, loads TICK_DIV and lowers every running timer by one; while gateway reset is asserted
none is taken. A timer that a tick brought to 0 never lives through the next one: an expiry not yet taken by then is taken
first, so the record is ORPHANED, the line INVALID and the source in its next state (R149, R150, R152, R157; that the
expiry may wait until then is the model's reading in assumption 7). -/
def Obligations.TickLowersEveryTimer : Prop :=
  ∀ s : State,
    (s.grst = true → exec .tickEvent s = .next s) ∧
    (s.grst = false → exec .tickEvent s = .next (lowered (expired s)))

/-- A timer of `n` ticks reaches 0 at the `n`-th tick event after its start and not before, and its expiry is taken by the
next tick at the latest: a read is then ORPHANED, a line INVALID, a RAISED source in its next round with a whole new timer
or STUCK, a CLAIMED source released. A timer at 0 may wait for its expiry until that tick or the next bus clock: the
model's reading in assumption 7 (R150, R152, R153). -/
def Obligations.TimersCountTicks : Prop :=
  ∀ (k : Nat) (s : State), s.grst = false →
    ∃ t, RunsTo (List.replicate k .tickEvent) s t ∧
      t.pool =
        (s.pool.map fun r =>
          match r.state with
          | .done result timer =>
            { r with state := if k ≤ timer then .done result (timer - k) else .orphaned }
          | _ => r) ∧
      (∀ e slot base data timer, s.entry e = .valid slot base data timer →
        t.entry e = if k ≤ timer then .valid slot base data (timer - k) else .invalid) ∧
      (∀ n round timer, (s.source n).state = .raised round timer →
        let route := s.cfg.route n
        (k ≤ timer → (t.source n).state = .raised round (timer - k)) ∧
        (k = timer + 1 →
          (t.source n).state =
            if round + 1 < route.repeatLimit then .raised (round + 1) (route.claimTimeout - 1) else .stuck)) ∧
      (∀ n holder timer, (s.source n).state = .claimed holder (some timer) →
        let route := s.cfg.route n
        (k ≤ timer → (t.source n).state = .claimed holder (some (timer - k))) ∧
        (k = timer + 1 →
          (t.source n).forced[holder] = some .holdExpired ∧
          (t.source n).state =
            if (s.source n).line = true ∧ route.subscribers ≠ 0#4 then .raised 0 (route.claimTimeout - 1)
            else .idle))

/-! ## Resets -/

/-- The assertion of a port's reset line is one event over its port, its records and the sources; the return to UP at its
deassertion is another. An edge while gateway reset is asserted only changes the level; a level that stands is no edge,
which is the model's reading in assumption 6 (R22, R107, R108, R125, R145, R161, R163, R165, R166). -/
def Obligations.PortResetAndReturn : Prop :=
  ∀ h s,
    ((s.port h).prst = true → exec (.portReset h) s = .next s) ∧
    ((s.port h).prst = false → exec (.returnToUp h) s = .next s) ∧
    (s.grst = true →
      exec (.portReset h) s = .next (s.modPort h fun p => { p with prst := true }) ∧
      exec (.returnToUp h) s = .next (s.modPort h fun p => { p with prst := false })) ∧
    (s.grst = false → (s.port h).prst = false →
      exec (.portReset h) s =
        .next
          { (s.modPort h fun p =>
              { p with
                prst := true, up := false, epoch := p.epoch + 1, latch := 0#16, threshold := 1, sequence := 0
                nline := false, cfgIndex := 0#16, cfgExpect := 0#16, queue := [], changed := none }) with
            pool :=
              s.pool.filterMap fun r =>
                if r.host = h ∧ r.kind = .read then
                  match r.state with
                  | .onBus _ => some { r with state := .onBus true }
                  | .failed fault partialWrite => some { r with state := .failed fault partialWrite }
                  | _ => none
                else if r.host = h ∧ r.state = .orphaned then none
                else some r
            sources :=
              Vector.ofFn fun n =>
                let src :=
                  match (s.sources[n]).state with
                  | .claimed holder _ =>
                    if holder = h then
                      released s.sources[n] (s.cfg.route n) fun g => decide (g ≠ h) && (s.port g).up
                    else s.sources[n]
                  | _ => s.sources[n]
                { src with owed := src.owed.set h none, forced := src.forced.set h none } }) ∧
    (s.grst = false → (s.port h).prst = true →
      exec (.returnToUp h) s =
        .next
          { (s.modPort h fun p =>
              { p with
                prst := false, up := true
                nline := p.queue.any fun n => decide (p.threshold ≤ n.priority) }) with
            sources :=
              Vector.ofFn fun n =>
                match catchUp s.sources[n] with
                | some kind =>
                  if (s.cfg.route n).subscribers.getLsbD h.val then
                    { s.sources[n] with
                      owed :=
                        (s.sources[n]).owed.set h (some { kind := kind, priority := (s.cfg.route n).priority }) }
                  else s.sources[n]
                | none => s.sources[n] })

/-- Gateway reset gives every block its reset state, from any state, with PBRST asserted and every port DOWN; its end
leaves the reset state with the levels of the attention lines taken afresh and each port UP whose reset line is inactive
(R24, R40, R65, R66, R83, R109, R127, R147, R157, R161, R173). The link answers, the input pins, the free-value counter
and the queue are not reset: they are the model's own or inputs (assumptions 1, 4, 5). PA and PWR at the assertion, and
the levels of the sources until the end, are the model's readings in assumptions 9 and 10. -/
def Obligations.GatewayResetCycle : Prop :=
  ∀ s : State,
    ∃ t, exec .gatewayReset s = .next t ∧
      t =
        { State.reset with
          bus := BusPins.reset true
          ports :=
            Vector.ofFn fun h =>
              { Port.reset with up := false, prst := (s.port h).prst, answer := (s.port h).answer }
          grst := true
          patn := s.patn
          samples := s.samples
          pending := s.pending } ∧
      exec .gatewayResetEnd t =
        .next
          { State.reset with
            ports :=
              Vector.ofFn fun h =>
                { Port.reset with up := !(s.port h).prst, prst := (s.port h).prst, answer := (s.port h).answer }
            sources := Vector.ofFn fun n => { Source.reset with line := s.patn[n] }
            patn := s.patn
            samples := s.samples
            pending := s.pending }

/-! ## What every step keeps -/

/-- The state right after reset meets every invariant stated below. -/
def Obligations.ResetIsSound : Prop :=
  State.reset.PoolWithin ∧ State.reset.ReadKeysUnique ∧ (∀ r ∈ State.reset.pool, r.Sound) ∧ State.reset.BusAgrees ∧
    State.reset.OperationSound ∧ State.reset.PinsSound ∧ State.reset.LinesAgree ∧ State.reset.NoStaleLine ∧
    State.reset.ServedSlots ∧ State.reset.SourcesSound ∧ State.reset.RoundsWithin ∧ State.reset.PortLevels ∧
    State.reset.QueuesSound ∧ State.reset.NoticeLines ∧ State.reset.ConfigLegal ∧ State.reset.TimebaseSound ∧
    State.reset.ArbiterSound

/-- The pool holds at most 32 records, and no host has two candidates with one key (R7, R9). -/
def Obligations.StepKeepsPoolBoundAndReadKeys : Prop :=
  Keeps State.PoolWithin ∧ Keeps State.ReadKeysUnique

/-- The fields of every record agree with its kind and state, a BYTE read holding data with the upper eight bits 0 and only
a WORD write a partial yes, and the sequencer is busy exactly while one record is ON_BUS, which is the one it performs (R1,
R2, R12, R15, R46). -/
def Obligations.StepKeepsRecordsAndBusAgreement : Prop :=
  Keeps fun s => (∀ r ∈ s.pool, r.Sound) ∧ s.BusAgrees

/-- The operation in flight follows its plan and has collected exactly the bytes of the beats taken; the P-bus pins follow
the beat, and PBRST follows GRST (R45, R49, R50, R51, R54, R55, R56, R65, R66). -/
def Obligations.StepKeepsPlanAndPins : Prop :=
  Keeps State.OperationSound ∧ Keeps State.PinsSound

/-- The recency order holds the entries that are not INVALID, no two of them hold one line, and one is FILLING exactly
while a fill is in flight, for its line (R69, R70). -/
def Obligations.StepKeepsLinesInAgreement : Prop :=
  Keeps State.LinesAgree

/-- No VALID line holds a byte that a write still to be performed targets; a VALID line belongs to an enabled and
prefetchable slot, and a QUEUED record to an enabled one (R47, R72, R82). -/
def Obligations.StepKeepsLinesFreshAndServed : Prop :=
  Keeps State.NoStaleLine ∧ Keeps State.ServedSlots

/-- Each source agrees with its line, its route and the ports: the holder is UP and subscribed, a source that is not IDLE
has a subscriber, a RAISED one has its line active, and a DOWN port is owed nothing; the line level recorded is the level
of the pin while gateway reset is deasserted (R89, R90, R91, R93, R94, R107, R109). -/
def Obligations.StepKeepsSourcesWithRoutesAndPorts : Prop :=
  Keeps State.SourcesSound

/-- Rounds stay between 0 and 6; ports are UP exactly as R161 gives; queues hold at most 8 notices in order of priority;
each notice line is asserted exactly as R123 gives (R89, R113, R123, R161). -/
def Obligations.StepKeepsPortsQueuesAndNoticeLines : Prop :=
  Keeps State.RoundsWithin ∧ Keeps State.PortLevels ∧ Keeps State.QueuesSound ∧ Keeps State.NoticeLines

/-- Every item holds a legal word; the divisor in effect is at least 1 and the count below it; the quantum remaining lies
between 0 and 8 and is 0 without a holder (R30, R129, R149). -/
def Obligations.StepKeepsTheSetTimebaseAndArbiter : Prop :=
  Keeps State.ConfigLegal ∧ Keeps State.TimebaseSound ∧ Keeps State.ArbiterSound

end
end

