-- ==== Sys2Proof/Laws/Decode.lean ====
section
/-!
SUPPORT. The fields of the request words that commands write, and the registers at their offsets (R169, R170, R174,
R176).
-/

namespace Sys2Proof

variable (write : BitVec 1) (width : Width) (slot : SlotId) (offset : Word) (control : BitVec 8)

/-- A register stands at its offset. -/
@[simp] theorem regAt_offset (r : ControlReg) : regAt r.offset = some r := by
  cases r with
  | head i => revert i; decide
  | claim n => revert n; decide
  | _ => decide

/-- The register at an offset has that offset. -/
theorem offset_of_regAt {offset : BitVec 8} {r : ControlReg} (h : regAt offset = some r) : r.offset = offset := by
  simpa using List.find?_some h

/-- The address of a slot request. -/
theorem slotRequestWord_address :
    (slotRequestWord write width slot offset).extractLsb' 0 20 = 0#1 ++ BitVec.ofNat 3 slot.val ++ offset := by
  refine BitVec.eq_of_getLsbD_eq fun i hi => ?_
  simp only [slotRequestWord, BitVec.getLsbD_extractLsb', BitVec.getLsbD_append, Nat.zero_add, hi, decide_true,
    Bool.true_and]
  by_cases h1 : i < 16
  · simp only [h1, ↓reduceIte]
  · by_cases h2 : i - 16 < 3
    · simp only [h1, h2, ↓reduceIte]
    · obtain rfl : i = 19 := by omega
      simp

/-- The address of a control access. -/
theorem controlRequestWord_address :
    (controlRequestWord write width control).extractLsb' 0 20 = 0x800#12 ++ control := by
  refine BitVec.eq_of_getLsbD_eq fun i hi => ?_
  simp only [controlRequestWord, BitVec.getLsbD_extractLsb', BitVec.getLsbD_append, Nat.zero_add, hi, decide_true,
    Bool.true_and]
  by_cases h1 : i < 8
  · simp only [h1, ↓reduceIte]
  · simp only [h1, show i - 8 < 12 by omega, ↓reduceIte]

/-- A slot request carries no reserved bit. -/
@[simp] theorem slotRequestWord_reserved : reservedBitsSet (slotRequestWord write width slot offset) = false := by
  simp only [reservedBitsSet, slotRequestWord, BitVec.getLsbD_append]
  simp

/-- A control access carries no reserved bit. -/
@[simp] theorem controlRequestWord_reserved :
    reservedBitsSet (controlRequestWord write width control) = false := by
  simp only [reservedBitsSet, controlRequestWord, BitVec.getLsbD_append]
  simp

/-- The kind bit of a slot request. -/
@[simp] theorem slotRequestWord_isWrite :
    requestIsWrite (slotRequestWord write width slot offset) = write.getLsbD 0 := by
  simp only [requestIsWrite, slotRequestWord, BitVec.getLsbD_append]
  simp

/-- The kind bit of a control access. -/
@[simp] theorem controlRequestWord_isWrite :
    requestIsWrite (controlRequestWord write width control) = write.getLsbD 0 := by
  simp only [requestIsWrite, controlRequestWord, BitVec.getLsbD_append]
  simp

/-- The width of a slot request. -/
@[simp] theorem slotRequestWord_width : requestWidth (slotRequestWord write width slot offset) = width := by
  cases width <;> simp only [requestWidth, slotRequestWord, BitVec.getLsbD_append, Width.bit] <;> simp

/-- The width of a control access. -/
@[simp] theorem controlRequestWord_width : requestWidth (controlRequestWord write width control) = width := by
  cases width <;> simp only [requestWidth, controlRequestWord, BitVec.getLsbD_append, Width.bit] <;> simp

/-- A slot request lies in slot space, at its slot and offset (R169). -/
@[simp] theorem requestRegion_slotRequestWord :
    requestRegion (slotRequestWord write width slot offset) = .slotSpace slot offset := by
  have low : (slotRequestWord write width slot offset).extractLsb' 0 16 = offset := by
    refine BitVec.eq_of_getLsbD_eq fun i hi => ?_
    simp only [slotRequestWord, BitVec.getLsbD_extractLsb', BitVec.getLsbD_append, Nat.zero_add, hi, decide_true,
      Bool.true_and, ↓reduceIte]
  have number : requestSlot (slotRequestWord write width slot offset) = slot := by
    have : (slotRequestWord write width slot offset).extractLsb' 16 3 = BitVec.ofNat 3 slot.val := by
      refine BitVec.eq_of_getLsbD_eq fun i hi => ?_
      have big : ¬ 16 + i < 16 := by omega
      simp only [slotRequestWord, BitVec.getLsbD_extractLsb', BitVec.getLsbD_append, big, hi, decide_true,
        Bool.true_and, ↓reduceIte, Nat.add_sub_cancel_left]
    simp [requestSlot, this, Fin.ext_iff, Fin.ofNat]
  have mapped : unmappedAddress (slotRequestWord write width slot offset) = false := by
    have bound : (0#1 ++ BitVec.ofNat 3 slot.val ++ offset).toNat < 0x80000 := by
      have := (BitVec.ofNat 3 slot.val ++ offset).isLt
      have e : (0#1 ++ BitVec.ofNat 3 slot.val ++ offset).toNat = (BitVec.ofNat 3 slot.val ++ offset).toNat := by
        rw [BitVec.append_assoc]
        generalize BitVec.ofNat 3 slot.val ++ offset = y
        simp only [BitVec.toNat_cast, BitVec.toNat_append, BitVec.toNat_ofNat, Nat.zero_mod, Nat.zero_shiftLeft,
          Nat.zero_or]
      omega
    simp only [unmappedAddress, slotRequestWord_address, BitVec.le_def, decide_eq_false_iff_not]
    simp only [BitVec.toNat_ofNat]
    omega
  have bit : (slotRequestWord write width slot offset).getLsbD 19 = false := by
    simp only [slotRequestWord, BitVec.getLsbD_append]
    simp
  simp only [requestRegion, slotRequestWord_reserved, mapped, bit, low, number, Bool.or_self, Bool.false_eq_true,
    ↓reduceIte]

/-- A control access lies in the control window, at its offset (R170). -/
@[simp] theorem requestRegion_controlRequestWord :
    requestRegion (controlRequestWord write width control) = .control control := by
  have low : (controlRequestWord write width control).extractLsb' 0 8 = control := by
    refine BitVec.eq_of_getLsbD_eq fun i hi => ?_
    simp only [controlRequestWord, BitVec.getLsbD_extractLsb', BitVec.getLsbD_append, Nat.zero_add, hi, decide_true,
      Bool.true_and, ↓reduceIte]
  have mapped : unmappedAddress (controlRequestWord write width control) = false := by
    have bound : (0x800#12 ++ control).toNat < 0x80100 := by
      have := control.isLt
      rw [BitVec.toNat_append, Nat.shiftLeft_eq, Nat.mul_comm, ← Nat.two_pow_add_eq_or_of_lt this]
      simp
      omega
    simp only [unmappedAddress, controlRequestWord_address, BitVec.le_def, decide_eq_false_iff_not]
    simp only [BitVec.toNat_ofNat]
    omega
  have bit : (controlRequestWord write width control).getLsbD 19 = true := by
    simp only [controlRequestWord, BitVec.getLsbD_append]
    simp
  simp only [requestRegion, controlRequestWord_reserved, mapped, bit, low, Bool.or_self, Bool.false_eq_true, ↓reduceIte]

end Sys2Proof
end

