-- ==== Sys2Proof/Laws/Ops.lean ====
section
/-!
SUPPORT. What the shared operations do: changing one port or source, the first element of a list that meets a test, the
taking of a request, the lookups and updates of the read-ahead lines, and placing a notice in a queue.
-/

namespace Sys2Proof.Machine

/-! ## One port and one source -/

/-- Two changes of a port that agree on that port's value are one change. -/
theorem State.modPort_congr {s : State} {h : HostId} {f g : Port → Port} (e : f (s.port h) = g (s.port h)) :
    s.modPort h f = s.modPort h g :=
  congrArg (fun p => { s with ports := s.ports.set h p }) e

/-- Two changes of a source that agree on that source's value are one change. -/
theorem State.modSource_congr {s : State} {n : SourceId} {f g : Source → Source}
    (e : f (s.source n) = g (s.source n)) : s.modSource n f = s.modSource n g :=
  congrArg (fun p => { s with sources := s.sources.set n p }) e

/-- A change that leaves the port's value leaves the state. -/
theorem State.modPort_eq_self {s : State} {h : HostId} {f : Port → Port} (e : f (s.port h) = s.port h) :
    s.modPort h f = s := by
  have : s.ports.set h (f s.ports[h]) = s.ports := by
    have e' : f s.ports[h] = s.ports[h] := e
    rw [e']
    exact Vector.set_getElem_self (i := h.val) (hi := h.isLt)
  simp only [State.modPort, this]

/-- A change that leaves the source's value leaves the state. -/
theorem State.modSource_eq_self {s : State} {n : SourceId} {f : Source → Source} (e : f (s.source n) = s.source n) :
    s.modSource n f = s := by
  have : s.sources.set n (f s.sources[n]) = s.sources := by
    have e' : f s.sources[n] = s.sources[n] := e
    rw [e']
    exact Vector.set_getElem_self (i := n.val) (hi := n.isLt)
  simp only [State.modSource, this]

/-! ## Taking a request -/

/-- An UP port hands the request to its owner and puts the owner's answer on the link. -/
theorem State.take_up {s : State} {h : HostId} {f : State → State × Answer} (up : (s.port h).up = true) :
    s.take h f = (f s).1.modPort h fun p => { p with answer := some (f s).2 } := by
  simp [State.take, up]

/-- A DOWN port takes nothing. -/
theorem State.take_down {s : State} {h : HostId} {f : State → State × Answer} (down : (s.port h).up = false) :
    s.take h f = s.modPort h fun p => { p with answer := none } := by
  simp [State.take, down]

/-! ## The first element that meets a test -/

variable {α β : Type}

/-- The element that stands behind elements that fail the test is the one changed. -/
theorem updateFirst_append {p : α → Bool} {f : α → α} {l : List α} {x : α} {r : List α}
    (before : ∀ y ∈ l, p y = false) (here : p x = true) : updateFirst p f (l ++ x :: r) = l ++ f x :: r := by
  induction l with
  | nil => simp [updateFirst, here]
  | cons y l ih =>
    have hy : p y = false := before y (by simp)
    simp [updateFirst, hy, ih fun z hz => before z (by simp [hz])]

/-- Where no element meets the test the list stays. -/
theorem updateFirst_none {p : α → Bool} {f : α → α} {l : List α} (h : ∀ y ∈ l, p y = false) :
    updateFirst p f l = l := by
  induction l with
  | nil => rfl
  | cons y l ih =>
    have hy : p y = false := h y (by simp)
    simp [updateFirst, hy, ih fun z hz => h z (by simp [hz])]

/-- What an update leaves of each element it leaves of the list: a view that it keeps is the same list. -/
theorem map_updateFirst {p : α → Bool} {f : α → α} {g : α → β} (h : ∀ x, g (f x) = g x) (l : List α) :
    (updateFirst p f l).map g = l.map g := by
  induction l with
  | nil => rfl
  | cons y l ih =>
    unfold updateFirst
    split <;> simp [h, ih]

/-- Every element of the updated list is an element of the list, or the change of one that meets the test. -/
theorem mem_updateFirst {p : α → Bool} {f : α → α} {l : List α} {x : α} (h : x ∈ updateFirst p f l) :
    x ∈ l ∨ ∃ y ∈ l, p y = true ∧ x = f y := by
  induction l with
  | nil => simp [updateFirst] at h
  | cons y l ih =>
    unfold updateFirst at h
    split at h
    · rcases List.mem_cons.1 h with rfl | h
      · exact .inr ⟨y, by simp, by assumption, rfl⟩
      · exact .inl (by simp [h])
    · rcases List.mem_cons.1 h with rfl | h
      · exact .inl (by simp)
      · rcases ih h with h | ⟨z, hz, e⟩
        · exact .inl (by simp [h])
        · exact .inr ⟨z, by simp [hz], e⟩

/-- The first element that meets a test, found behind elements that fail it. -/
theorem find?_append_first {p : α → Bool} {l : List α} {x : α} {r : List α} (before : ∀ y ∈ l, p y = false)
    (here : p x = true) : (l ++ x :: r).find? p = some x := by
  induction l with
  | nil => simp [here]
  | cons y l ih => simp [before y (by simp), ih fun z hz => before z (by simp [hz])]

/-- The first element that meets a test, removed from behind elements that fail it. -/
theorem eraseP_append_first {p : α → Bool} {l : List α} {x : α} {r : List α} (before : ∀ y ∈ l, p y = false)
    (here : p x = true) : (l ++ x :: r).eraseP p = l ++ r := by
  induction l with
  | nil => simp [here]
  | cons y l ih => simp [before y (by simp), ih fun z hz => before z (by simp [hz])]

/-- A list with an element that meets a test is split at the first such element. -/
theorem exists_first {p : α → Bool} {l : List α} (h : ∃ x ∈ l, p x = true) :
    ∃ a x b, l = a ++ x :: b ∧ p x = true ∧ ∀ y ∈ a, p y = false := by
  induction l with
  | nil => simp at h
  | cons y l ih =>
    by_cases hy : p y = true
    · exact ⟨[], y, l, rfl, hy, by simp⟩
    · obtain ⟨x, hx, px⟩ := h
      have hx' : x ∈ l := by
        rcases List.mem_cons.1 hx with rfl | hx
        · exact absurd px hy
        · exact hx
      obtain ⟨a, x, b, rfl, px, ha⟩ := ih ⟨x, hx', px⟩
      refine ⟨y :: a, x, b, rfl, px, fun z hz => ?_⟩
      rcases List.mem_cons.1 hz with rfl | hz
      · simpa using hy
      · exact ha z hz

/-! ## Read-ahead lines -/

/-- Every entry number stands in `allEight`. -/
theorem mem_allEight (e : Fin 8) : e ∈ allEight := by revert e; decide

/-- Every host stands in `allHosts`. -/
theorem mem_allHosts (h : HostId) : h ∈ allHosts := by revert h; decide

/-- A search through the entry numbers finds the lowest that meets the test, or none does. -/
theorem find?_allEight (p : Fin 8 → Bool) :
    match allEight.find? p with
    | some e => p e = true ∧ ∀ f, f < e → p f = false
    | none => ∀ e, p e = false := by
  cases h : allEight.find? p with
  | none => exact fun e => by simpa using List.find?_eq_none.1 h e (mem_allEight e)
  | some e =>
    obtain ⟨pe, a, b, eq, na⟩ := List.find?_eq_some_iff_append.1 h
    refine ⟨pe, fun f lt => ?_⟩
    have order : (a ++ e :: b).Pairwise (· < ·) := eq ▸ by decide
    have mem : f ∈ a ++ e :: b := eq ▸ mem_allEight f
    rcases List.mem_append.1 mem with h | h
    · simpa using na f h
    · rcases List.mem_cons.1 h with rfl | h
      · exact absurd lt (lt_irrefl _)
      · have := (List.pairwise_append.1 order).2.1
        exact absurd lt (not_lt.2 (le_of_lt (List.rel_of_pairwise_cons this h)))

/-- No VALID entry covers the offset exactly where the lookup answers none (R68). -/
theorem State.validEntry_eq_none {s : State} {slot : SlotId} {offset : Word} :
    s.validEntry slot offset = none ↔ ∀ e data timer, s.entry e ≠ .valid slot (lineBase offset) data timer := by
  unfold State.validEntry
  rw [List.find?_eq_none]
  constructor
  · intro h e data timer eq
    have := h e (mem_allEight e)
    simp [eq, LineEntry.isValidAt] at this
  · intro h e _
    cases eq : s.entry e with
    | invalid => simp [LineEntry.isValidAt]
    | filling slot' base poisoned => simp [LineEntry.isValidAt]
    | valid slot' base data timer =>
      simp only [LineEntry.isValidAt, Bool.and_eq_true, beq_iff_eq, not_and]
      rintro rfl rfl
      exact h e data timer eq

/-- An entry that the lookup answers is VALID for the line of the offset (R68). -/
theorem State.validEntry_eq_some {s : State} {slot : SlotId} {offset : Word} {e : EntryId}
    (h : s.validEntry slot offset = some e) : ∃ data timer, s.entry e = .valid slot (lineBase offset) data timer := by
  have := List.find?_some h
  cases eq : s.entry e with
  | invalid => simp [eq, LineEntry.isValidAt] at this
  | filling slot' base poisoned => simp [eq, LineEntry.isValidAt] at this
  | valid slot' base data timer =>
    simp [eq, LineEntry.isValidAt] at this
    exact ⟨data, timer, by rw [this.1, this.2]⟩

/-- An entry that a fill end finds is FILLING for the line (R72). -/
theorem State.fillingEntry_eq_some {s : State} {slot : SlotId} {base : Word} {e : EntryId}
    (h : s.fillingEntry slot base = some e) : ∃ poisoned, s.entry e = .filling slot base poisoned := by
  have := List.find?_some h
  cases eq : s.entry e with
  | invalid => simp [eq, LineEntry.isFillingFor] at this
  | valid slot' base data timer => simp [eq, LineEntry.isFillingFor] at this
  | filling slot' base poisoned =>
    simp [eq, LineEntry.isFillingFor] at this
    exact ⟨poisoned, by rw [this.1, this.2]⟩

/-- No entry is FILLING for the line exactly where the fill end finds none (R72). -/
theorem State.fillingEntry_eq_none {s : State} {slot : SlotId} {base : Word} :
    s.fillingEntry slot base = none ↔ ∀ e poisoned, s.entry e ≠ .filling slot base poisoned := by
  unfold State.fillingEntry
  rw [List.find?_eq_none]
  constructor
  · intro h e poisoned eq
    have := h e (mem_allEight e)
    simp [eq, LineEntry.isFillingFor] at this
  · intro h e _
    cases eq : s.entry e with
    | invalid => simp [LineEntry.isFillingFor]
    | valid slot' base data timer => simp [LineEntry.isFillingFor]
    | filling slot' base poisoned =>
      simp only [LineEntry.isFillingFor, Bool.and_eq_true, beq_iff_eq, not_and]
      rintro rfl rfl
      exact h e poisoned eq

/-- A change of every entry, seen at one entry. -/
@[simp] theorem ReadAhead.change_entry (l : ReadAhead) (f : LineEntry → LineEntry) (e : EntryId) :
    (l.change f).entries[e] = f l.entries[e] := by
  simp [ReadAhead.change]

/-- A placed entry, seen at itself. -/
@[simp] theorem ReadAhead.place_entry_same (l : ReadAhead) (e : EntryId) (entry : LineEntry) :
    (l.place e entry).entries[e] = entry := by
  simp [ReadAhead.place]

/-- A placed entry leaves the others. -/
theorem ReadAhead.place_entry_ne (l : ReadAhead) {e f : EntryId} (entry : LineEntry) (ne : f ≠ e) :
    (l.place e entry).entries[f] = l.entries[f] := by
  have : e.val ≠ f.val := fun h => ne (Fin.ext h.symm)
  simp [ReadAhead.place, this]

/-- A dropped entry is INVALID. -/
@[simp] theorem ReadAhead.drop_entry_same (l : ReadAhead) (e : EntryId) : (l.drop e).entries[e] = .invalid := by
  simp [ReadAhead.drop]

/-- A dropped entry leaves the others. -/
theorem ReadAhead.drop_entry_ne (l : ReadAhead) {e f : EntryId} (ne : f ≠ e) :
    (l.drop e).entries[f] = l.entries[f] := by
  have : e.val ≠ f.val := fun h => ne (Fin.ext h.symm)
  simp [ReadAhead.drop, this]

/-- A hit changes no entry. -/
@[simp] theorem ReadAhead.touch_entries (l : ReadAhead) (e : EntryId) : (l.touch e).entries = l.entries := rfl

/-- What a fill end can do to the lines: nothing, drop the FILLING entry, or make it VALID with the fill's bytes (R72). -/
theorem State.fillEnd_cases (s : State) (slot : SlotId) (base : Word) (bytes : Option (Vector Byte 16)) :
    (s.fillingEntry slot base = none ∧ s.fillEnd slot base bytes = s) ∨
    (∃ e, s.fillingEntry slot base = some e ∧ s.fillEnd slot base bytes = { s with lines := s.lines.drop e }) ∨
    (∃ e data, s.fillingEntry slot base = some e ∧ bytes = some data ∧ (s.entry e).isPoisoned = false ∧
      s.lineQuery slot base = false ∧ s.cfg.lineLife ≠ 0#16 ∧
      s.fillEnd slot base bytes =
        { s with lines := s.lines.place e (.valid slot base data s.cfg.lineLife.toNat) }) := by
  unfold State.fillEnd
  cases hf : s.fillingEntry slot base with
  | none => exact .inl ⟨rfl, rfl⟩
  | some e =>
    cases bytes with
    | none => exact .inr (.inl ⟨e, rfl, rfl⟩)
    | some data =>
      by_cases h : (s.entry e).isPoisoned ∨ s.lineQuery slot base ∨ s.cfg.lineLife = 0#16
      · exact .inr (.inl ⟨e, rfl, by simp [h]⟩)
      · refine .inr (.inr ⟨e, data, rfl, rfl, ?_, ?_, ?_, by simp [h]⟩)
        · simpa using fun hp => h (.inl hp)
        · simpa using fun hq => h (.inr (.inl hq))
        · exact fun hl => h (.inr (.inr hl))

/-! ## Notice queue -/

/-- A placed notice joins the others. -/
theorem insertNotice_perm (n : Notice) (q : List Notice) : (insertNotice n q).Perm (n :: q) := by
  induction q with
  | nil => exact List.Perm.refl _
  | cons m q ih =>
    unfold insertNotice
    split
    · exact List.Perm.refl _
    · exact (List.Perm.cons m ih).trans (List.Perm.swap n m q)

/-- A placement adds one notice. -/
@[simp] theorem insertNotice_length (n : Notice) (q : List Notice) : (insertNotice n q).length = q.length + 1 :=
  (insertNotice_perm n q).length_eq

/-- The notices after a placement. -/
@[simp] theorem mem_insertNotice {n m : Notice} {q : List Notice} : m ∈ insertNotice n q ↔ m = n ∨ m ∈ q := by
  rw [(insertNotice_perm n q).mem_iff, List.mem_cons]

/-! ## The bus sequencer -/

/-- The grant of a selection goes on with the holder, or passes to an eligible host with a fresh quantum (R33, R34). -/
theorem State.grant_cases {s : State} {h : HostId} {q : Nat} (g : s.grant = some (h, q)) :
    s.eligible h = true ∧
      ((s.arbiter.holder = some h ∧ 1 ≤ s.arbiter.quantum ∧ q = s.arbiter.quantum) ∨ q = s.cfg.quantum) := by
  have pass : ∀ {x : Option (HostId × Nat)},
      x = ((passOrder s.arbiter.holder).find? s.eligible).map (fun h => (h, s.cfg.quantum)) →
      x = some (h, q) → s.eligible h = true ∧ q = s.cfg.quantum := by
    rintro _ rfl e
    obtain ⟨g, hg, e⟩ := Option.map_eq_some_iff.1 e
    obtain ⟨rfl, rfl⟩ := Prod.mk.inj e
    exact ⟨List.find?_some hg, rfl⟩
  unfold State.grant at g
  cases hh : s.arbiter.holder with
  | none =>
    rw [hh] at g
    exact (pass (by rw [hh]) g).imp id .inr
  | some k =>
    simp only [hh] at g
    split at g
    · rename_i c
      obtain ⟨rfl, rfl⟩ := Prod.mk.inj (Option.some.inj g)
      exact ⟨c.1, .inl ⟨rfl, c.2, rfl⟩⟩
    · exact (pass (by rw [hh]) g).imp id .inr

/-- A selection that is taken: the sequencer was IDLE, a grant was made, and the holder's oldest QUEUED record is taken;
otherwise nothing changes (R32 to R35). -/
theorem State.selection_cases (s : State) :
    s.selection = s ∨
      ∃ h q r, s.sequencer = none ∧ s.grant = some (h, q) ∧ s.pool.find? (Record.isQueuedOf h) = some r ∧
        s.selection = State.takeRecord { s with arbiter := { holder := some h, quantum := q - 1 } } h r := by
  unfold State.selection
  cases hs : s.sequencer with
  | some op => exact .inl (by simp)
  | none =>
    cases hg : s.grant with
    | none => exact .inl (by simp)
    | some g =>
      obtain ⟨h, q⟩ := g
      cases hr : s.pool.find? (Record.isQueuedOf h) with
      | none => exact .inl (by simp [hr])
      | some r => exact .inr ⟨h, q, r, rfl, rfl, hr, by simp [hr]⟩

/-- A transfer taken ends the strobe: with the bytes sampled added, or with BUS_PARITY, or as it is on a write (R54,
R55). -/
theorem State.takeTransfer_cases (s : State) (op : Operation) (lanes : Word) (ppar : Bool) :
    (op.job.isWrite = true ∧ s.takeTransfer op lanes ppar = s.enterRecovery op none) ∨
    (op.job.isWrite = false ∧ op.profile.parityAgrees lanes ppar = true ∧
      s.takeTransfer op lanes ppar =
        s.enterRecovery { op with collected := op.collected ++ op.sampledBytes lanes } none) ∨
    (op.job.isWrite = false ∧ op.profile.parityAgrees lanes ppar = false ∧
      s.takeTransfer op lanes ppar = s.enterRecovery op (some .busParity)) := by
  unfold State.takeTransfer
  cases hw : op.job.isWrite <;> cases hp : op.profile.parityAgrees lanes ppar <;> simp

/-! ## Due expiries and ticks -/

@[simp] theorem State.expireDue_timebase (s : State) : s.expireDue.timebase = s.timebase := rfl

@[simp] theorem State.expireDue_arbiter (s : State) : s.expireDue.arbiter = s.arbiter := rfl

@[simp] theorem State.expireDue_sequencer (s : State) : s.expireDue.sequencer = s.sequencer := rfl

@[simp] theorem State.expireDue_bus (s : State) : s.expireDue.bus = s.bus := rfl

@[simp] theorem State.expireDue_ports (s : State) : s.expireDue.ports = s.ports := rfl

@[simp] theorem State.expireDue_cfg (s : State) : s.expireDue.cfg = s.cfg := rfl

@[simp] theorem State.expireDue_grst (s : State) : s.expireDue.grst = s.grst := rfl

@[simp] theorem State.expireDue_patn (s : State) : s.expireDue.patn = s.patn := rfl

@[simp] theorem State.expireDue_samples (s : State) : s.expireDue.samples = s.samples := rfl

@[simp] theorem State.expireDue_pending (s : State) : s.expireDue.pending = s.pending := rfl

@[simp] theorem State.tick_arbiter (s : State) : s.tick.arbiter = s.arbiter := rfl

@[simp] theorem State.tick_sequencer (s : State) : s.tick.sequencer = s.sequencer := rfl

@[simp] theorem State.tick_bus (s : State) : s.tick.bus = s.bus := rfl

@[simp] theorem State.tick_ports (s : State) : s.tick.ports = s.ports := rfl

@[simp] theorem State.tick_cfg (s : State) : s.tick.cfg = s.cfg := rfl

@[simp] theorem State.tick_grst (s : State) : s.tick.grst = s.grst := rfl

@[simp] theorem State.tick_patn (s : State) : s.tick.patn = s.patn := rfl

@[simp] theorem State.tick_samples (s : State) : s.tick.samples = s.samples := rfl

@[simp] theorem State.tick_pending (s : State) : s.tick.pending = s.pending := rfl

/-- The due expiries, seen at one source. -/
@[simp] theorem State.source_expireDue (s : State) (n : SourceId) :
    s.expireDue.source n = (s.source n).expireDue (s.cfg.route n) s.upSet := by
  simp [State.expireDue, State.source]

/-- The due expiries, seen at one line entry. -/
@[simp] theorem State.entry_expireDue (s : State) (e : EntryId) :
    s.expireDue.entry e = if (s.entry e).isDue then .invalid else s.entry e := by
  simp only [State.expireDue, State.entry, ReadAhead.expireDue, Fin.getElem_fin, Vector.getElem_ofFn]
  rfl

/-- A tick, seen at one source. -/
@[simp] theorem State.source_tick (s : State) (n : SourceId) : s.tick.source n = (s.source n).tick := by
  simp [State.tick, State.source]

/-- A tick, seen at one line entry. -/
@[simp] theorem State.entry_tick (s : State) (e : EntryId) : s.tick.entry e = (s.entry e).tick := by
  simp [State.tick, State.entry]

/-- A record's due expiry: it is DONE with its timer at 0 and becomes ORPHANED, or stays (R16). -/
theorem Record.expireDue_cases (r : Record) :
    (∃ result, r.state = .done result 0 ∧ r.expireDue = { r with state := .orphaned }) ∨ r.expireDue = r := by
  unfold Record.expireDue
  split
  · exact .inl ⟨_, by assumption, rfl⟩
  · exact .inr rfl

/-- A source's due expiry: its claim timer stands at 0 and the claim timeout is taken, or its hold timer does and the hold
timeout is taken, or it stays (R100, R103). -/
theorem Source.expireDue_cases (src : Source) (route : Route) (up : HostId → Bool) :
    (∃ round, src.state = .raised round 0 ∧ src.expireDue route up = src.claimTimeout route up) ∨
    (∃ holder, src.state = .claimed holder (some 0) ∧ src.expireDue route up = src.holdTimeout route up) ∨
    src.expireDue route up = src := by
  unfold Source.expireDue
  cases h : src.state with
  | idle => exact .inr (.inr (by simp [Source.claimTimeout, Source.holdTimeout, h]))
  | stuck => exact .inr (.inr (by simp [Source.claimTimeout, Source.holdTimeout, h]))
  | raised round timer =>
    cases timer with
    | zero =>
      refine .inl ⟨round, rfl, ?_⟩
      by_cases c : round + 1 < route.repeatLimit <;>
        simp [Source.claimTimeout, Source.holdTimeout, Source.owe, h, c]
    | succ k => exact .inr (.inr (by simp [Source.claimTimeout, Source.holdTimeout, h]))
  | claimed holder timer =>
    have stays : src.claimTimeout route up = src := by simp [Source.claimTimeout, h]
    rw [stays]
    match timer with
    | some 0 => exact .inr (.inl ⟨holder, rfl, rfl⟩)
    | none => exact .inr (.inr (by simp [Source.holdTimeout, h]))
    | some (k + 1) => exact .inr (.inr (by simp [Source.holdTimeout, h]))

/-- Where no timer stands at 0 the due expiries change nothing (R154). -/
theorem State.expireDue_eq_self {s : State} (pool : ∀ r ∈ s.pool, ∀ result, r.state ≠ .done result 0)
    (lines : ∀ e, (s.entry e).isDue = false)
    (sources : ∀ n,
      (∀ round, (s.source n).state ≠ .raised round 0) ∧ ∀ holder, (s.source n).state ≠ .claimed holder (some 0)) :
    s.expireDue = s := by
  have hp : s.pool.map Record.expireDue = s.pool := by
    conv_rhs => rw [← List.map_id s.pool]
    refine List.map_congr_left fun r hr => ?_
    rcases r.expireDue_cases with ⟨result, due, -⟩ | stays
    · exact absurd due (pool r hr result)
    · exact stays
  have hl : s.lines.expireDue = s.lines := by
    have due : ∀ e : EntryId, (s.lines.entries[e]).isDue = false := lines
    simp only [ReadAhead.expireDue, due]
    simp
  have hs : (Vector.ofFn fun n : SourceId => (s.sources[n]).expireDue (s.cfg.route n) s.upSet) = s.sources := by
    ext1 i hi
    rw [Vector.getElem_ofFn]
    rcases (s.source ⟨i, hi⟩).expireDue_cases (s.cfg.route ⟨i, hi⟩) s.upSet with ⟨_, due, -⟩ | ⟨_, due, -⟩ | stays
    · exact absurd due ((sources ⟨i, hi⟩).1 _)
    · exact absurd due ((sources ⟨i, hi⟩).2 _)
    · exact stays
  simp only [State.expireDue, hp, hl, hs]

end Sys2Proof.Machine
end

