-- ==== Sys2Proof/Laws/State.lean ====
section
/-!
SUPPORT. The small lemmas of the state's accessors and updates: what each update leaves of each field, and reading
after writing.
-/

namespace Sys2Proof.Machine

variable (s : State)

/-! ## One port -/

@[simp] theorem State.modPort_pool (h : HostId) (f : Port → Port) : (s.modPort h f).pool = s.pool := rfl

@[simp] theorem State.modPort_arbiter (h : HostId) (f : Port → Port) : (s.modPort h f).arbiter = s.arbiter := rfl

@[simp] theorem State.modPort_sequencer (h : HostId) (f : Port → Port) : (s.modPort h f).sequencer = s.sequencer := rfl

@[simp] theorem State.modPort_bus (h : HostId) (f : Port → Port) : (s.modPort h f).bus = s.bus := rfl

@[simp] theorem State.modPort_lines (h : HostId) (f : Port → Port) : (s.modPort h f).lines = s.lines := rfl

@[simp] theorem State.modPort_sources (h : HostId) (f : Port → Port) : (s.modPort h f).sources = s.sources := rfl

@[simp] theorem State.modPort_cfg (h : HostId) (f : Port → Port) : (s.modPort h f).cfg = s.cfg := rfl

@[simp] theorem State.modPort_timebase (h : HostId) (f : Port → Port) : (s.modPort h f).timebase = s.timebase := rfl

@[simp] theorem State.modPort_grst (h : HostId) (f : Port → Port) : (s.modPort h f).grst = s.grst := rfl

@[simp] theorem State.modPort_patn (h : HostId) (f : Port → Port) : (s.modPort h f).patn = s.patn := rfl

@[simp] theorem State.modPort_samples (h : HostId) (f : Port → Port) : (s.modPort h f).samples = s.samples := rfl

@[simp] theorem State.modPort_pending (h : HostId) (f : Port → Port) : (s.modPort h f).pending = s.pending := rfl

@[simp] theorem State.source_modPort (n : SourceId) (h : HostId) (f : Port → Port) : (s.modPort h f).source n = s.source n := rfl

@[simp] theorem State.entry_modPort (e : EntryId) (h : HostId) (f : Port → Port) : (s.modPort h f).entry e = s.entry e := rfl

/-! ## Every port -/

@[simp] theorem State.mapPorts_pool (f : HostId → Port → Port) : (s.mapPorts f).pool = s.pool := rfl

@[simp] theorem State.mapPorts_arbiter (f : HostId → Port → Port) : (s.mapPorts f).arbiter = s.arbiter := rfl

@[simp] theorem State.mapPorts_sequencer (f : HostId → Port → Port) : (s.mapPorts f).sequencer = s.sequencer := rfl

@[simp] theorem State.mapPorts_bus (f : HostId → Port → Port) : (s.mapPorts f).bus = s.bus := rfl

@[simp] theorem State.mapPorts_lines (f : HostId → Port → Port) : (s.mapPorts f).lines = s.lines := rfl

@[simp] theorem State.mapPorts_sources (f : HostId → Port → Port) : (s.mapPorts f).sources = s.sources := rfl

@[simp] theorem State.mapPorts_cfg (f : HostId → Port → Port) : (s.mapPorts f).cfg = s.cfg := rfl

@[simp] theorem State.mapPorts_timebase (f : HostId → Port → Port) : (s.mapPorts f).timebase = s.timebase := rfl

@[simp] theorem State.mapPorts_grst (f : HostId → Port → Port) : (s.mapPorts f).grst = s.grst := rfl

@[simp] theorem State.mapPorts_patn (f : HostId → Port → Port) : (s.mapPorts f).patn = s.patn := rfl

@[simp] theorem State.mapPorts_samples (f : HostId → Port → Port) : (s.mapPorts f).samples = s.samples := rfl

@[simp] theorem State.mapPorts_pending (f : HostId → Port → Port) : (s.mapPorts f).pending = s.pending := rfl

@[simp] theorem State.source_mapPorts (n : SourceId) (f : HostId → Port → Port) : (s.mapPorts f).source n = s.source n := rfl

@[simp] theorem State.entry_mapPorts (e : EntryId) (f : HostId → Port → Port) : (s.mapPorts f).entry e = s.entry e := rfl

/-! ## One source -/

@[simp] theorem State.modSource_pool (n : SourceId) (f : Source → Source) : (s.modSource n f).pool = s.pool := rfl

@[simp] theorem State.modSource_arbiter (n : SourceId) (f : Source → Source) : (s.modSource n f).arbiter = s.arbiter := rfl

@[simp] theorem State.modSource_sequencer (n : SourceId) (f : Source → Source) : (s.modSource n f).sequencer = s.sequencer := rfl

@[simp] theorem State.modSource_bus (n : SourceId) (f : Source → Source) : (s.modSource n f).bus = s.bus := rfl

@[simp] theorem State.modSource_lines (n : SourceId) (f : Source → Source) : (s.modSource n f).lines = s.lines := rfl

@[simp] theorem State.modSource_ports (n : SourceId) (f : Source → Source) : (s.modSource n f).ports = s.ports := rfl

@[simp] theorem State.modSource_cfg (n : SourceId) (f : Source → Source) : (s.modSource n f).cfg = s.cfg := rfl

@[simp] theorem State.modSource_timebase (n : SourceId) (f : Source → Source) : (s.modSource n f).timebase = s.timebase := rfl

@[simp] theorem State.modSource_grst (n : SourceId) (f : Source → Source) : (s.modSource n f).grst = s.grst := rfl

@[simp] theorem State.modSource_patn (n : SourceId) (f : Source → Source) : (s.modSource n f).patn = s.patn := rfl

@[simp] theorem State.modSource_samples (n : SourceId) (f : Source → Source) : (s.modSource n f).samples = s.samples := rfl

@[simp] theorem State.modSource_pending (n : SourceId) (f : Source → Source) : (s.modSource n f).pending = s.pending := rfl

@[simp] theorem State.port_modSource (h : HostId) (m : SourceId) (f : Source → Source) : (s.modSource m f).port h = s.port h := rfl

@[simp] theorem State.entry_modSource (e : EntryId) (m : SourceId) (f : Source → Source) : (s.modSource m f).entry e = s.entry e := rfl

/-! ## Every source -/

@[simp] theorem State.mapSources_pool (f : SourceId → Source → Source) : (s.mapSources f).pool = s.pool := rfl

@[simp] theorem State.mapSources_arbiter (f : SourceId → Source → Source) : (s.mapSources f).arbiter = s.arbiter := rfl

@[simp] theorem State.mapSources_sequencer (f : SourceId → Source → Source) : (s.mapSources f).sequencer = s.sequencer := rfl

@[simp] theorem State.mapSources_bus (f : SourceId → Source → Source) : (s.mapSources f).bus = s.bus := rfl

@[simp] theorem State.mapSources_lines (f : SourceId → Source → Source) : (s.mapSources f).lines = s.lines := rfl

@[simp] theorem State.mapSources_ports (f : SourceId → Source → Source) : (s.mapSources f).ports = s.ports := rfl

@[simp] theorem State.mapSources_cfg (f : SourceId → Source → Source) : (s.mapSources f).cfg = s.cfg := rfl

@[simp] theorem State.mapSources_timebase (f : SourceId → Source → Source) : (s.mapSources f).timebase = s.timebase := rfl

@[simp] theorem State.mapSources_grst (f : SourceId → Source → Source) : (s.mapSources f).grst = s.grst := rfl

@[simp] theorem State.mapSources_patn (f : SourceId → Source → Source) : (s.mapSources f).patn = s.patn := rfl

@[simp] theorem State.mapSources_samples (f : SourceId → Source → Source) : (s.mapSources f).samples = s.samples := rfl

@[simp] theorem State.mapSources_pending (f : SourceId → Source → Source) : (s.mapSources f).pending = s.pending := rfl

@[simp] theorem State.port_mapSources (h : HostId) (f : SourceId → Source → Source) : (s.mapSources f).port h = s.port h := rfl

@[simp] theorem State.entry_mapSources (e : EntryId) (f : SourceId → Source → Source) : (s.mapSources f).entry e = s.entry e := rfl

/-! ## Reading after writing -/

@[simp] theorem State.port_modPort_same (h : HostId) (f : Port → Port) : (s.modPort h f).port h = f (s.port h) := by
  simp [State.modPort, State.port]

theorem State.port_modPort_ne {g h : HostId} (f : Port → Port) (ne : g ≠ h) : (s.modPort h f).port g = s.port g := by
  have : h.val ≠ g.val := fun e => ne (Fin.ext e.symm)
  simp [State.modPort, State.port, this]

@[simp] theorem State.port_mapPorts (h : HostId) (f : HostId → Port → Port) :
    (s.mapPorts f).port h = f h (s.port h) := by
  simp [State.mapPorts, State.port]

@[simp] theorem State.source_modSource_same (n : SourceId) (f : Source → Source) :
    (s.modSource n f).source n = f (s.source n) := by
  simp [State.modSource, State.source]

theorem State.source_modSource_ne {m n : SourceId} (f : Source → Source) (ne : m ≠ n) :
    (s.modSource n f).source m = s.source m := by
  have : n.val ≠ m.val := fun e => ne (Fin.ext e.symm)
  simp [State.modSource, State.source, this]

@[simp] theorem State.source_mapSources (n : SourceId) (f : SourceId → Source → Source) :
    (s.mapSources f).source n = f n (s.source n) := by
  simp [State.mapSources, State.source]

/-- Two changes of one port are one. -/
@[simp] theorem State.modPort_modPort (h : HostId) (f g : Port → Port) :
    (s.modPort h f).modPort h g = s.modPort h (g ∘ f) := by
  simp [State.modPort]

/-- Two states with equal blocks and equal ports, sources and entries at every index are equal. -/
theorem State.ext_blocks {s t : State} (pool : s.pool = t.pool) (arbiter : s.arbiter = t.arbiter)
    (sequencer : s.sequencer = t.sequencer) (bus : s.bus = t.bus) (lines : s.lines = t.lines)
    (sources : ∀ n, s.source n = t.source n) (ports : ∀ h, s.port h = t.port h) (cfg : s.cfg = t.cfg)
    (timebase : s.timebase = t.timebase) (grst : s.grst = t.grst) (patn : s.patn = t.patn)
    (samples : s.samples = t.samples) (pending : s.pending = t.pending) : s = t := by
  have hs : s.sources = t.sources := Vector.ext fun i hi => sources ⟨i, hi⟩
  have hp : s.ports = t.ports := Vector.ext fun i hi => ports ⟨i, hi⟩
  cases s
  cases t
  simp_all

end Sys2Proof.Machine
end

