-- ==== Sys2Proof/Tests/Slice0.lean ====
section
/-!
SUPPORT. Tests of the model on fixed values, taken from the worked examples and tables of the manual, and, in the
second half, the witnesses: for each statement with hypotheses a concrete state and operands that meet them.
-/

namespace Sys2Proof.Tests

open Sys2Proof Sys2Proof.Machine Sys2Proof.Statements

/-! ## Small states -/

/-- The state after a command. -/
def after (c : Instr) (s : State) : State :=
  match exec c s with
  | .next t => t
  | _ => s

/-- The answer on the link of host `h`. -/
def ans (h : HostId) (s : State) : Option Answer := (s.port h).answer

/-- Right after reset, with slot S2 enabled and 16-bit, and S6 disabled (example 9.9). -/
def base : State :=
  { State.reset with cfg := { ConfigSet.reset with mode := ConfigSet.reset.mode.set 2 0x0003#16 } }

/-- A READ word S2:0010h of H1 in the given state. -/
def reader (st : RecordState) : Record :=
  { kind := .read, slot := 2, offset := 0x0010#16, width := .word, host := 1, epoch := 0, state := st }

/-- A WRITE word S2:0012h of H1 in the given state. -/
def writer (st : RecordState) : Record :=
  { kind := .write 0x1234#16, slot := 2, offset := 0x0012#16, width := .word, host := 1, epoch := 3, state := st }

/-- `base` with these records in the pool. -/
def withPool (pool : List Record) : State := { base with pool := pool }

/-- Sixteen bytes with 2222h at offset 4 of the line (example 2.9). -/
def lineBytes : Vector Byte 16 := ((Vector.replicate 16 0#8).set 4 0x22#8).set 5 0x22#8

/-- Slot S4 enabled, 16-bit and prefetchable, and the line S4:0020h VALID in entry 0 (example 2.9). -/
def lined (timer : Nat) : State :=
  { State.reset with
    cfg := { ConfigSet.reset with mode := ConfigSet.reset.mode.set 4 0x0007#16 }
    lines :=
      { entries := (Vector.replicate 8 LineEntry.invalid).set 0 (.valid 4 0x0020#16 lineBytes timer)
        recency := [0] } }

/-- The operation of example 3.11: WRITE WORD S5:0010h, data 0C381h, 8-bit slot, parity ODD. -/
def wordWrite (index : Nat) (phase : Phase) (fault : Option (AccessFault × Nat)) : Operation :=
  { job := { kind := .write 0xC381#16, slot := 5, offset := 0x0010#16, width := .word }
    profile :=
      { prefetchable := false, wide := false, parity := .odd, setup := 3, strobe := 8, recovery := 4, readyLimit := 16 }
    fillLine := none, plan := [0x0010#16, 0x0011#16], index := index, phase := phase, phaseClocks := 0
    collected := [], endingFault := fault }

/-- A single access READ word S2:0010h with the given parity, ready limit, phase and collected bytes. -/
def wordRead (parity : Parity) (readyLimit : Nat) (phase : Phase) (collected : List (Word × Byte)) : Operation :=
  { job := { kind := .read, slot := 2, offset := 0x0010#16, width := .word }
    profile :=
      { prefetchable := false, wide := true, parity := parity, setup := 3, strobe := 8, recovery := 4
        readyLimit := readyLimit }
    fillLine := none, plan := [0x0010#16], index := 1, phase := phase, phaseClocks := 0
    collected := collected, endingFault := none }

/-- `base` with this operation in flight for these records. -/
def busy (op : Operation) (pool : List Record) : State := { base with pool := pool, sequencer := some op }

/-- Source A5 with subscribers H0, H1 and H2, priority 2, repeat limit 3 (example 5.12), in the given state. -/
def sourced (st : SourceState) (line : Bool) : State :=
  { State.reset with
    cfg := { ConfigSet.reset with routeA := ConfigSet.reset.routeA.set 5 0x0327#16 }
    patn := State.reset.patn.set 5 line
    sources := State.reset.sources.set 5 { Source.reset with state := st, line := line } }

/-- H1's port holding these notices, with THRESHOLD 2 and the counter at 20 (example 6.7). -/
def queued (queue : List Notice) : State :=
  base.modPort 1 fun p => { p with threshold := 2, sequence := 20, queue := queue }

/-- Notices 12 and 18 of example 6.7. -/
def notice12 : Notice :=
  { sequence := 12, priority := 3, body := .writeFailed 2 0x0040#16 .word .busTimeout false 3 }
def notice18 : Notice := { sequence := 18, priority := 1, body := .repeated 1 1 }

/-- H1's CFG_INDEX at an index. -/
def indexed (index : Word) : State := base.modPort 1 fun p => { p with cfgIndex := index }

/-- H1's port with room for one notice more. -/
def oneRoom : State := queued (List.replicate 7 notice18)

/-- A finished fill of the line S4:0020h for READ word S4:0024h: every byte collected, the last beat in RECOVERY. -/
def filled : Operation :=
  { job := { kind := .read, slot := 4, offset := 0x0024#16, width := .word }
    profile :=
      { prefetchable := true, wide := true, parity := .none, setup := 3, strobe := 8, recovery := 4, readyLimit := 0 }
    fillLine := some (4, 0x0020#16)
    plan :=
      [0x0024#16, 0x0026#16, 0x0028#16, 0x002A#16, 0x002C#16, 0x002E#16, 0x0020#16, 0x0022#16]
    index := 8, phase := .recovery, phaseClocks := 0
    collected :=
      [4, 5, 6, 7, 8, 9, 10, 11, 12, 13, 14, 15, 0, 1, 2, 3].map fun i => (0x0020#16 + BitVec.ofNat 16 i, BitVec.ofNat 8 i)
    endingFault := none }

/-- That fill in flight, for the record `filler`, with entry 0 FILLING. -/
def filler : Record := { reader (.onBus false) with slot := 4, offset := 0x0024#16 }
def filling (poisoned : Bool) : State :=
  { lined 50 with
    pool := [filler], sequencer := some filled
    lines :=
      { entries := (Vector.replicate 8 LineEntry.invalid).set 0 (.filling 4 0x0020#16 poisoned), recency := [0] } }

/-! ## Well-formedness: one ill-formed term for each check -/

/-- 20010h is mapped and the reserved bits are 0. -/
theorem test_raw_request_must_fail_decode : (Instr.unmappedRequest 0 0x120010#24 0#16).wellFormed = false := by decide

/-- A word read at 20h is the row CLAIM. -/
theorem test_claim_read_is_no_port_status : (Instr.portStatus 0 .word 0x20#8).wellFormed = false := by decide

/-- A word write at 0Ch is the row NOTICE_POP. -/
theorem test_pop_is_no_register_write : (Instr.registerWrite 0 .word 0x0C#8 0#16).wellFormed = false := by decide

/-! ## Formats (chapter 10, examples) -/

theorem test_request_words :
    decodeRequest 0x120010#24 0#16 = .slotRead 2 0x0010#16 .word ∧
      decodeRequest 0x22FFFF#24 0x1234#16 = .slotWrite 2 0xFFFF#16 .byte 0x1234#16 ∧
      decodeRequest 0x180000#24 0#16 = .readReg .statusFirst := by decide

theorem test_decode_faults :
    decodeRequest 0x080000#24 0#16 = .badAddress ∧ decodeRequest 0x380000#24 0#16 = .badAddress ∧
      decodeRequest 0x18000C#24 0#16 = .badAddress ∧ decodeRequest 0x180001#24 0#16 = .badAddress ∧
      decodeRequest 0x180100#24 0#16 = .badAddress ∧ decodeRequest 0x520010#24 0#16 = .badAddress := by decide

theorem test_answer_words :
    (Answer.data 0xBEEF#16).word = 0x0BEEF#18 ∧ Answer.accept.word = 0x10000#18 ∧
      (Answer.retry .pending).word = 0x20001#18 ∧ (Answer.fault .align).word = 0x30002#18 ∧
      (Answer.fault .staleGeneration).word = 0x30007#18 := by decide

theorem test_notice_words :
    (List.finRange 4).map (headWord [notice12]) = [0x0C35#16, 0x000A#16, 0x0040#16, 0x0304#16] ∧
      (List.finRange 4).map (headWord [notice18]) = [0x1212#16, 0x0011#16, 0x0000#16, 0x0000#16] ∧
      (List.finRange 4).map (headWord [{ sequence := 24, priority := 1, body := .configChanged 10 2 }]) =
        [0x1817#16, 0x2000#16, 0x000A#16, 0x0000#16] ∧
      (List.finRange 4).map (headWord [{ sequence := 0, priority := 2, body := .forcedRelease 2 .holdExpired }]) =
        [0x0024#16, 0x0102#16, 0x0000#16, 0x0000#16] := by decide

/-- The table of R50. -/
theorem test_fill_plans :
    fillPlan true { kind := .read, slot := 0, offset := 0x0027#16, width := .byte } =
      [0x0026#16, 0x0028#16, 0x002A#16, 0x002C#16, 0x002E#16, 0x0020#16, 0x0022#16, 0x0024#16] ∧
      (fillPlan false { kind := .read, slot := 0, offset := 0x002E#16, width := .word }).take 4 =
        [0x002E#16, 0x002F#16, 0x0020#16, 0x0021#16] := by decide

/-! ## Requests (examples 9.9 and 10.4) -/

theorem test_slot_read_admitted :
    ans 1 (after (.slotRead 1 2 0x0010#16 .word) base) = some (.retry .pending) ∧
      (after (.slotRead 1 2 0x0010#16 .word) base).pool = [reader .queued] := by decide

theorem test_slot_read_odd_word : ans 1 (after (.slotRead 1 2 0x0011#16 .word) base) = some (.fault .align) := by decide

theorem test_byte_write_keeps_low_byte :
    ans 1 (after (.slotWrite 1 2 0xFFFF#16 .byte 0x1234#16) base) = some .accept ∧
      (after (.slotWrite 1 2 0xFFFF#16 .byte 0x1234#16) base).pool.map (·.kind) = [.write 0x0034#16] := by decide

theorem test_slot_write_disabled :
    ans 1 (after (.slotWrite 1 6 0x0000#16 .word 0#16) base) = some (.fault .slotOff) := by decide

theorem test_unmapped_request :
    ans 1 (after (.unmappedRequest 1 0x180100#24 0#16) base) = some (.fault .badAddress) := by decide

/-- Held 2, DONE 0, notices 0; quota 8, epoch 0, line deasserted. -/
theorem test_port_status :
    let t := after (.portStatus 1 .word 0x00#8) (withPool [reader .queued, writer .queued])
    ans 1 t = some (.data 0x0002#16) ∧ (t.port 1).latch = 0x0008#16 := by decide

theorem test_byte_read_of_control :
    ans 1 (after (.portStatus 1 .byte 0x00#8) base) = some (.fault .badAddress) := by decide

theorem test_pop_empty : ans 1 (after (.noticePop 1 0#16) base) = some (.fault .queueEmpty) := by decide

/-- Event 10 of example 6.7: the line falls with THRESHOLD 2 and only priority 1 left. -/
theorem test_pop_drops_line :
    (((after (.noticePop 1 0#16) (queued [notice12, notice18])).port 1).queue = [notice18]) ∧
      ((after (.noticePop 1 0#16) (queued [notice12, notice18])).port 1).nline = false := by decide

/-- Event 11 of example 6.7: a write of 1 raises the line; 0 is refused. -/
theorem test_threshold :
    ((after (.threshold 1 1#16) (queued [notice18])).port 1).nline = true ∧
      ans 1 (after (.threshold 1 0#16) base) = some (.fault .badValue) := by decide

theorem test_cancel_reads :
    (after (.cancelReads 1 0#16) (withPool [reader .queued, writer .queued, reader (.onBus false)])).pool =
      [writer .queued, reader (.onBus true)] := by decide

/-- Events 3 and 4 of example 5.12. -/
theorem test_claim :
    ans 1 (after (.claim 1 5) (sourced (.raised 0 100) true)) = some (.data 0x0001#16) ∧
      ans 0 (after (.claim 0 5) (sourced (.claimed 1 none) true)) = some (.data 0x0103#16) := by decide

/-- Events 6 and 11 of example 5.12. -/
theorem test_release :
    ((after (.release 1 5#16) (sourced (.claimed 1 none) true)).source 5).state = .raised 0 100 ∧
      ans 1 (after (.release 1 5#16) (sourced .idle false)) = some (.fault .notHolder) := by decide

theorem test_rearm :
    ((after (.rearm 1 5#16) (sourced .stuck true)).source 5).state = .raised 0 100 ∧
      ans 3 (after (.rearm 3 5#16) (sourced .stuck true)) = some (.fault .notSubscribed) := by decide

/-- Mode word 0031h has the reserved parity encoding; 0017h is legal. -/
theorem test_cfg_data_write :
    ans 1 (after (.cfgDataWrite 1 0x0031#16) (indexed 0x1C#16)) = some (.fault .badValue) ∧
      (after (.cfgDataWrite 1 0x0017#16) (indexed 0x1C#16)).cfg.mode[3] = 0x0017#16 := by decide

/-- Event 6 of example 7.9: CFG_EXPECT 41 against generation 42. -/
theorem test_cfg_cdata_write_stale :
    let s := (indexed 0x1D#16).modPort 1 fun p => { p with cfgExpect := 41 }
    ans 1 (after (.cfgCdataWrite 1 0x1003#16) { s with cfg := { s.cfg with generation := 42 } }) =
      some (.fault .staleGeneration) := by decide

theorem test_register_write :
    ((after (.registerWrite 1 .word 0x40#8 0x001D#16) base).port 1).cfgIndex = 0x001D#16 ∧
      ans 1 (after (.registerWrite 1 .word 0x00#8 0#16) base) = some (.fault .badAddress) := by decide

/-! ## Events -/

/-- Event 1 of example 5.12. -/
theorem test_attention_active :
    let t := after (.attentionLineActive 5) (sourced .idle false)
    (t.source 5).state = .raised 0 100 ∧
      (t.source 5).owed[2] = some { kind := .attention 0, priority := 2 } ∧ (t.source 5).owed[3] = none := by decide

/-- Event 9 of example 5.12, and R93 in RAISED. -/
theorem test_attention_inactive :
    ((after (.attentionLineInactive 5) (sourced (.claimed 0 none) true)).source 5).state = .claimed 0 none ∧
      ((after (.attentionLineInactive 5) (sourced (.raised 1 7) true)).source 5).state = .idle := by decide

/-- Time 100 of example 8.6: the tick loads TICK_DIV and lowers the timer of the line. -/
theorem test_tick :
    let s := { lined 3 with cfg := { (lined 3).cfg with tickDiv := 10 } }
    (after .tickEvent s).timebase = { count := 0, divisor := 10 } ∧
      (after .tickEvent s).entry 0 = .valid 4 0x0020#16 lineBytes 2 := by decide

/-- A timer that reached 0 does not live through the next tick (R152); the restarted claim timer counts that tick (R153). -/
theorem test_tick_takes_due_expiries :
    (after .tickEvent (lined 0)).entry 0 = .invalid ∧
      (after .tickEvent (withPool [reader (.done (.data 5) 0)])).pool = [reader .orphaned] ∧
      ((after .tickEvent (sourced (.raised 0 0) true)).source 5).state = .raised 1 99 := by decide

/-- Event 16 of example 1.9. -/
theorem test_collection_expiry :
    (after (.collectionTimerExpiry 1 2 0x0010#16 .word) (withPool [reader (.done (.data 5) 0)])).pool =
      [reader .orphaned] := by decide

theorem test_lifetime_expiry :
    (after (.lifetimeExpiry 0) (lined 0)).entry 0 = .invalid ∧ (after (.lifetimeExpiry 0) (lined 0)).lines.recency = [] := by
  decide

/-- Events 2 and 5 of example 5.13, with repeat limit 3. -/
theorem test_claim_timeout :
    ((after (.claimTimeout 5) (sourced (.raised 0 0) true)).source 5).state = .raised 1 100 ∧
      ((after (.claimTimeout 5) (sourced (.raised 2 0) true)).source 5).state = .stuck := by decide

/-- Event 9 of example 5.13. -/
theorem test_hold_timeout :
    let t := after (.holdTimeout 5) (sourced (.claimed 1 (some 0)) true)
    (t.source 5).state = .raised 0 100 ∧ (t.source 5).forced[1] = some .holdExpired := by decide

/-- Event 4 of example 1.9: no holder, the search from H0 finds H1 here; S2 is not prefetchable. -/
theorem test_selection :
    let t := after .selection (withPool [reader .queued, writer .queued])
    t.arbiter = { holder := some 1, quantum := 0 } ∧ t.pool = [reader (.onBus false), writer .queued] ∧
      t.bus.psel = some 2 ∧ t.bus.pa = 0x0010#16 ∧ t.bus.pwr = false := by decide

/-- Event 9 of example 2.9: a line completion; the sequencer stays IDLE. -/
theorem test_selection_from_line :
    let r : Record := { reader .queued with slot := 4, offset := 0x0024#16 }
    let t := after .selection { lined 50 with pool := [r] }
    t.pool = [{ r with state := .done (.data 0x2222#16) 2000 }] ∧ t.sequencer = none := by decide

theorem test_setup_end :
    (after (.setupEnd false) (busy (wordWrite 1 .setup none) [])).bus.pstb = true ∧
      (after (.setupEnd true) (busy (wordWrite 1 .setup none) [])).sequencer =
        some (wordWrite 1 .recovery (some (.busDeclined, 1))) := by decide

/-- The ready limit of example 3.11 is 16: without ready the beat waits. -/
theorem test_strobe_period_end :
    (after (.strobePeriodEnd false 0#16 false) (busy (wordWrite 1 .strobe none) [])).sequencer =
        some (wordWrite 1 .readyWait none) ∧
      (after (.strobePeriodEnd true 0#16 false) (busy (wordWrite 1 .strobe none) [])).sequencer =
        some (wordWrite 1 .recovery none) := by decide

/-- 1234h has 5 ones, so EVEN asks for PPAR high (the table of R55); with PPAR low the beat ends BUS_PARITY. -/
theorem test_ready_parity :
    (after (.ready 0x1234#16 true) (busy (wordRead .even 16 .readyWait []) [])).sequencer =
        some (wordRead .even 16 .recovery [(0x0010#16, 0x34#8), (0x0011#16, 0x12#8)]) ∧
      (after (.ready 0x1234#16 false) (busy (wordRead .even 16 .readyWait []) [])).sequencer =
        some { wordRead .even 16 .recovery [] with endingFault := some (.busParity, 1) } := by decide

/-- Beat 2 of example 3.11. -/
theorem test_decline :
    (after .decline (busy (wordWrite 2 .strobe none) [])).sequencer =
      some (wordWrite 2 .recovery (some (.busDeclined, 2))) := by decide

theorem test_ready_limit_expiry :
    (after .readyLimitExpiry (busy (wordWrite 1 .readyWait none) [])).sequencer =
      some (wordWrite 1 .recovery (some (.busTimeout, 1))) := by decide

/-- Beats 1 and 2 of example 3.11: PA, PD7 to PD0 and PPAR. -/
theorem test_recovery_end_drives_second_beat :
    (wordWrite 1 .setup none).writeLanes = some 0x0081#16 ∧
      (after .recoveryEnd (busy (wordWrite 1 .recovery none) [])).bus =
        { psel := some 5, pstb := false, pa := 0x0011#16, pwr := true, pd := some 0x00C3#16, ppar := some true
          pbrst := false } := by decide

/-- Example 3.11: w becomes FAILED with BUS_DECLINED and partial yes. -/
theorem test_completion :
    let w : Record := { writer (.onBus false) with slot := 5, offset := 0x0010#16, kind := .write 0xC381#16 }
    (after .completion (busy (wordWrite 2 .recovery (some (.busDeclined, 2))) [w])).pool =
      [{ w with state := .failed .busDeclined (some true) }] := by decide

/-- Event 3 of example 6.7: the FAILED record goes first and to the head, as sequence 20. -/
theorem test_placement_pass :
    let s := queued [notice18]
    let t := after (.placementPass 1) { s with pool := [reader .orphaned, writer (.failed .busTimeout none)] }
    ((t.port 1).queue.map fun n => (n.sequence, n.priority)) = [(20, 3), (21, 2), (18, 1)] ∧ t.pool = [] := by decide

/-- Event 1 of example 9.10. -/
theorem test_port_reset :
    let t :=
      after (.portReset 1)
        (withPool [writer (.failed .busTimeout none), reader (.done (.data 5) 9), reader (.onBus false), writer .queued])
    t.pool = [writer (.failed .busTimeout none), reader (.onBus true), writer .queued] ∧ (t.port 1).up = false ∧
      (t.port 1).epoch = 1 := by decide

/-- Event 6 of example 9.10: A4 is RAISED in round 0 at the return. -/
theorem test_return_to_up :
    let s := (sourced (.raised 0 50) true).modPort 1 fun p => { p with up := false, prst := true }
    ((after (.returnToUp 1) s).port 1).up = true ∧
      ((after (.returnToUp 1) s).source 5).owed[1] = some { kind := .attention 0, priority := 2 } := by decide

theorem test_gateway_reset :
    let t := after .gatewayReset (busy (wordWrite 1 .strobe none) [writer (.onBus false)])
    t.pool = [] ∧ t.sequencer = none ∧ t.bus.pbrst = true ∧ (t.port 0).up = false := by decide

/-- A line active at the end of reset is recorded, and PRST1 still asserted keeps its port DOWN (R109, R161). -/
theorem test_gateway_reset_end :
    let s := after .gatewayReset ((sourced .idle true).modPort 1 fun p => { p with prst := true })
    let t := after .gatewayResetEnd s
    (t.source 5).line = true ∧ (t.port 0).up = true ∧ (t.port 1).up = false ∧ t.bus.pbrst = false := by decide

/-- An empty queue of commands: the 100th clock of the first interval is the tick (R157). -/
theorem test_idle_step_ticks :
    step { State.reset with timebase := { count := 98, divisor := 100 } } =
        .next { State.reset with timebase := { count := 99, divisor := 100 } } ∧
      State.reset.clock.timebase.count = 1 ∧
      (State.clock { State.reset with timebase := { count := 99, divisor := 100 } }).timebase.count = 0 :=
  ⟨rfl, by decide, by decide⟩

/-- The last beat of a write with ready limit 0 and recovery 0, on the 8th clock of its strobe: the RECOVERY ends at once,
and on that clock the operation is complete (R56). With recovery 4 the bus is still in RECOVERY. -/
theorem test_recovery_of_zero_ends_at_once :
    let op := fun recovery =>
      { wordWrite 2 .strobe none with
        phaseClocks := 7
        profile := { (wordWrite 2 .strobe none).profile with readyLimit := 0, recovery := recovery } }
    let s := fun recovery => busy (op recovery) [{ writer (.onBus false) with slot := 5 }]
    ((s 0).clock.sequencer = none ∧ (s 0).clock.pool = []) ∧
      (s 4).clock.sequencer.map (·.phase) = some .recovery := by decide

/-! ## Witnesses

Each theorem names the statement whose hypotheses it shows to be met together, clause by clause where there are several. -/

/-- An idle bus clock: reset, the last clock of an interval, and reset with GRST asserted; a phase with clocks left, the last
clock of each phase, and a RECOVERY of 0 clocks that a command began. -/
theorem witness_IdleStepIsOneBusClock :
    (State.reset.pending = [] ∧ State.reset.grst = false ∧ State.reset.sequencer = none ∧
      State.reset.timebase.count + 1 < State.reset.timebase.divisor.toNat) ∧
      (let s := { State.reset with timebase := { count := 99, divisor := 100 } }
       s.pending = [] ∧ s.grst = false ∧ ¬ s.timebase.count + 1 < s.timebase.divisor.toNat) ∧
      ({ State.reset with grst := true }).pending = [] ∧
      (let on := fun op : Operation => busy op []
       let op := fun phase clocks => { wordWrite 1 phase none with phaseClocks := clocks }
       let zero := { op .recovery 0 with profile := { (op .recovery 0).profile with recovery := 0 } }
       (on (op .setup 0)).sequencer = some (op .setup 0) ∧ (on (op .setup 0)).pending = [] ∧
         (on (op .setup 0)).grst = false ∧ (op .setup 0).phaseClocks + 1 < latchedTime (op .setup 0) ∧
         latchedTime (op .setup 2) ≤ (op .setup 2).phaseClocks + 1 ∧
         latchedTime (op .strobe 7) ≤ (op .strobe 7).phaseClocks + 1 ∧
         latchedTime (op .readyWait 15) ≤ (op .readyWait 15).phaseClocks + 1 ∧
         latchedTime (op .recovery 3) ≤ (op .recovery 3).phaseClocks + 1 ∧
         ¬ (op .recovery 3).profile.recovery ≤ (op .recovery 3).phaseClocks ∧
         zero.phase = .recovery ∧ zero.profile.recovery ≤ zero.phaseClocks) := by decide

theorem witness_CommandOfItsRequestWord :
    (Instr.slotWrite 3 7 0xFFFF#16 .word 0x8001#16).wellFormed = true ∧
      (Instr.slotWrite 3 7 0xFFFF#16 .word 0x8001#16).request = some (3, 0x37FFFF#24, 0x8001#16) := by decide

/-- The kind bit of the last clause is met by the write 22FFFFh. -/
theorem witness_EveryRequestWordIsACommand : (0x22FFFF#24).getLsbD 21 = true := by decide

theorem witness_DownPortTakesNoRequest :
    (Instr.noticePop 1 0#16).request = some (1, 0x38000C#24, 0#16) ∧
      ((base.modPort 1 fun p => { p with up := false }).port 1).up = false := by decide

/-- Clause by clause: a failing word, the first unmapped address, the last slot address, the last register, an offset
between registers, a BYTE access. -/
theorem witness_RequestDecode :
    (base.port 1).up = true ∧ decodeRequest 0x180100#24 0#16 = .badAddress ∧
      (Instr.unmappedRequest 1 0x180100#24 0#16).request = some (1, 0x180100#24, 0#16) ∧
      0x80100 ≤ ((0x180100#24).extractLsb' 0 20).toNat ∧
      ((0x17FFFF#24).extractLsb' 22 2 = 0#2 ∧
        ((0x17FFFF#24).extractLsb' 0 20).toNat = 0x10000 * (7 : SlotId).val + (0xFFFF#16).toNat) ∧
      (((0x180048#24).extractLsb' 0 20).toNat = 0x80000 + ControlReg.cfgGen.offset.toNat ∧
        (0x180048#24).getLsbD 20 = true ∧ (0x180048#24).getLsbD 21 = false ∧ ControlReg.cfgGen.readable = true) ∧
      (((0x380046#24).extractLsb' 0 20).toNat = 0x80000 + ControlReg.cfgCdata.offset.toNat ∧
        (0x380046#24).getLsbD 20 = true ∧ (0x380046#24).getLsbD 21 = true ∧ ControlReg.cfgCdata.writable = true) ∧
      ((0x1800FF#24).extractLsb' 0 20).toNat = 0x80000 + (0xFF#8).toNat ∧ regAt 0xFF#8 = none := by decide

/-- H1's claim is a request, and its next state exists; no register of H0 is in reach. -/
theorem witness_RequestReachesItsOwnPort :
    (Instr.claim 1 5).request = some (1, 0x18002A#24, 0#16) ∧
      exec (.claim 1 5) base = .next (after (.claim 1 5) base) ∧ (0 : HostId) ≠ 1 ∧
      (after (.claim 1 5) base).cfg = base.cfg := ⟨by decide, rfl, by decide, by decide⟩

/-- Every item of a set holds a legal word. -/
theorem configLegal_base : base.ConfigLegal := by
  intro item
  cases item with
  | quota h => revert h; decide
  | mode slot => revert slot; decide
  | timingA slot => revert slot; decide
  | timingB slot => revert slot; decide
  | routeA n => revert n; decide
  | routeB n => revert n; decide
  | _ => decide

theorem witness_PortStatusTakesSixValues :
    (base.port 1).up = true ∧ base.PoolWithin ∧ base.QueuesSound ∧ base.ConfigLegal :=
  ⟨by decide, by unfold State.PoolWithin; decide, by unfold State.QueuesSound; decide, configLegal_base⟩

/-- Index 0 names TICK_DIV, 3Fh the last item, and 40h none. -/
theorem witness_ControlRegistersReadAndWrite :
    (base.port 1).up = true ∧ Names base 1 .tickDiv ∧ Names (indexed 0x3F#16) 1 (.routeB 7) ∧
      ∀ item, ¬ Names (indexed 0x40#16) 1 item := by
  refine ⟨by decide, rfl, rfl, fun item => ?_⟩
  cases item with
  | quota h => revert h; unfold Names; decide
  | mode slot => revert slot; unfold Names; decide
  | timingA slot => revert slot; unfold Names; decide
  | timingB slot => revert slot; unfold Names; decide
  | routeA n => revert n; unfold Names; decide
  | routeB n => revert n; unfold Names; decide
  | _ => unfold Names; decide

theorem witness_HeadRegistersCarryTheHeadNotice :
    ((queued [notice12, notice18]).port 1).up = true ∧ (queued [notice12, notice18]).RoundsWithin ∧
      ((queued [notice12, notice18]).port 1).queue = notice12 :: [notice18] ∧ ((queued []).port 1).queue = [] := by
  refine ⟨by decide, ⟨fun n => ⟨?_, ?_⟩, ?_⟩, by decide, by decide⟩
  · intro round timer h
    have idle : ∀ m, ((queued [notice12, notice18]).source m).state = .idle := by decide
    rw [idle n] at h
    cases h
  · revert n
    decide
  · decide

theorem witness_PopRemovesTheHead :
    ((queued [notice12]).port 1).up = true ∧ ((queued [notice12]).port 1).queue = notice12 :: [] ∧
      ((queued []).port 1).queue = [] := by decide

/-- The matching record behind another one of the host, in each of the four states. -/
theorem witness_SlotReadFindsItsRecord :
    (base.port 1).up = true ∧
      (withPool [writer .queued, reader .queued]).pool = [writer .queued] ++ reader .queued :: [] ∧
      Matches 1 2 0x0010#16 .word (reader .queued) ∧ Matches 1 2 0x0010#16 .word (reader (.onBus false)) ∧
      Matches 1 2 0x0010#16 .word (reader (.done (.data 5) 0)) ∧
      Matches 1 2 0x0010#16 .word (reader (.done (.fault .busParity) 9)) ∧
      ∀ x ∈ [writer .queued], ¬ Matches 1 2 0x0010#16 .word x := by
  refine ⟨by decide, rfl, ?_, ?_, ?_, ?_, ?_⟩
  · exact ⟨rfl, rfl, rfl, rfl, rfl, .inl rfl⟩
  · exact ⟨rfl, rfl, rfl, rfl, rfl, .inr (.inl rfl)⟩
  · exact ⟨rfl, rfl, rfl, rfl, rfl, .inr (.inr ⟨_, _, rfl⟩)⟩
  · exact ⟨rfl, rfl, rfl, rfl, rfl, .inr (.inr ⟨_, _, rfl⟩)⟩
  · intro x hx h
    cases List.mem_singleton.1 hx
    exact absurd h.1 (by decide)

/-- A DONE BYTE read that is sound, for the clause on its data. -/
theorem witness_SlotReadFindsItsRecord_byte :
    let r : Record := { reader (.done (.data 0x00A5#16) 9) with width := .byte, offset := 0x0011#16 }
    (withPool [r]).pool = [] ++ r :: [] ∧ Matches 1 2 0x0011#16 .byte r ∧ r.Sound :=
  ⟨rfl, ⟨rfl, rfl, rfl, rfl, rfl, .inr (.inr ⟨_, _, rfl⟩)⟩, ⟨nofun, nofun, fun _ => (by decide : (0x00A5#16).toNat < 256)⟩⟩

/-- An empty pool has no match: an odd WORD, a disabled slot, a VALID line of a prefetchable slot, an enabled slot with
room, a host at its quota and a full pool. -/
theorem witness_SlotReadWithoutRecord :
    (∀ x ∈ base.pool, ¬ Matches 1 2 0x0011#16 .word x) ∧ (0x0011#16).getLsbD 0 = true ∧
      (base.cfg.mode[6]).getLsbD 0 = false ∧
      (((lined 1).cfg.mode[4]).getLsbD 2 = true ∧ (lined 1).lines.TagsUnique ∧
        (lined 1).entry 0 = .valid 4 (lineBase 0x002F#16) lineBytes 1) ∧
      (base.held 1 < (base.cfg.quota[1]).toNat ∧ base.pool.length < 32) ∧
      ((withPool (List.replicate 8 (writer .queued))).cfg.quota[1]).toNat ≤
        (withPool (List.replicate 8 (writer .queued))).held 1 ∧
      32 ≤ (withPool (List.replicate 32 { writer .queued with host := 0 })).pool.length ∧
      (withPool (List.replicate 32 { writer .queued with host := 0 })).held 1 = 0 := by
  refine ⟨nofun, by decide, by decide, ⟨by decide, by unfold ReadAhead.TagsUnique; decide, by decide⟩, ?_⟩
  decide

theorem witness_SlotWriteIsAdmittedOrRefused :
    (base.port 1).up = true ∧ (0x0011#16).getLsbD 0 = true ∧ (base.cfg.mode[6]).getLsbD 0 = false ∧
      (base.cfg.mode[2]).getLsbD 0 = true ∧ (base.held 1 < (base.cfg.quota[1]).toNat ∧ base.pool.length < 32) ∧
      ((withPool (List.replicate 8 (writer .queued))).cfg.quota[1]).toNat ≤
        (withPool (List.replicate 8 (writer .queued))).held 1 ∧
      32 ≤ (withPool (List.replicate 32 { writer .queued with host := 0 })).pool.length := by decide

/-- The reset quotas sum to 32, and the held counts are at or below them, also with H1 at its quota. -/
theorem witness_QuotaShareIsFree :
    let s := withPool (List.replicate 8 (writer .queued))
    (s.cfg.quota[0]).toNat + (s.cfg.quota[1]).toNat + (s.cfg.quota[2]).toNat + (s.cfg.quota[3]).toNat ≤ 32 ∧
      (∀ g, s.held g ≤ (s.cfg.quota[g]).toNat) ∧
      exec (.slotRead 0 2 0#16 .byte) s = .next (after (.slotRead 0 2 0#16 .byte) s) ∧
      exec (.slotWrite 0 2 0#16 .byte 0#16) s = .next (after (.slotWrite 0 2 0#16 .byte 0#16) s) ∧
      s.held 0 < (s.cfg.quota[0]).toNat := ⟨by decide, by decide, rfl, rfl, by decide⟩

theorem witness_ExpiriesOfReadsAndLines :
    (withPool [reader (.done (.data 5) 0)]).pool = [] ++ reader (.done (.data 5) 0) :: [] ∧
      Matches 1 2 0x0010#16 .word (reader (.done (.data 5) 0)) ∧
      (lined 0).entry 0 = .valid 4 0x0020#16 lineBytes 0 ∧ (lined 1).entry 0 = .valid 4 0x0020#16 lineBytes 1 :=
  ⟨rfl, ⟨rfl, rfl, rfl, rfl, rfl, .inr (.inr ⟨_, _, rfl⟩)⟩, rfl, rfl⟩

theorem witness_LanesKeepAdmissionOrder :
    exec (.cancelReads 1 0#16) (withPool [reader .queued, writer .queued]) =
      .next (after (.cancelReads 1 0#16) (withPool [reader .queued, writer .queued])) := rfl

/-- A holder that keeps the grant, one whose quantum is spent, and no holder. -/
theorem witness_SelectionGrantsRoundRobin :
    let s := withPool [reader .queued]
    let held := fun quantum => { s with arbiter := { holder := some 1, quantum := quantum } }
    s.sequencer = none ∧ (∃ r ∈ s.pool, r.host = 1 ∧ r.state = .queued) ∧ s.arbiter.holder = none ∧
      ((held 1).arbiter.holder = some 1 ∧ 1 ≤ (held 1).arbiter.quantum) ∧ (held 0).arbiter.quantum = 0 ∧
      (busy (wordWrite 1 .setup none) [reader .queued]).sequencer ≠ none ∧
      ∀ h, ¬ ∃ r ∈ base.pool, r.host = h ∧ r.state = .queued := by decide

theorem witness_SelectionCompletesFromALine :
    let r : Record := { reader .queued with slot := 4, offset := 0x0024#16 }
    let s := { lined 50 with pool := [r] }
    s.sequencer = none ∧ s.grant = some (1, 1) ∧ s.pool = [] ++ r :: [] ∧ r.host = 1 ∧ r.state = .queued ∧
      r.kind = .read ∧ (s.cfg.mode[r.slot]).getLsbD 2 = true ∧ s.lines.TagsUnique ∧
      s.entry 0 = .valid r.slot (lineBase r.offset) lineBytes 50 :=
  ⟨rfl, by decide, rfl, rfl, rfl, rfl, by decide, by unfold ReadAhead.TagsUnique; decide, by decide⟩

/-- A write, a read of a slot that is not prefetchable, and a read that becomes a fill. -/
theorem witness_SelectionIssuesAnOperation :
    let writing := withPool [writer .queued, reader .queued]
    let reading := withPool [reader .queued]
    let r : Record := { reader .queued with slot := 4, offset := 0x0034#16 }
    let filling := { lined 50 with pool := [r] }
    (writing.sequencer = none ∧ writing.grant = some (1, 1) ∧
      writing.pool = [] ++ writer .queued :: [reader .queued] ∧ (writer .queued).kind ≠ .read) ∧
      (reading.sequencer = none ∧ reading.grant = some (1, 1) ∧ reading.pool = [] ++ reader .queued :: [] ∧
        (reading.cfg.mode[(reader .queued).slot]).getLsbD 2 = false) ∧
      (filling.sequencer = none ∧ filling.grant = some (1, 1) ∧ filling.pool = [] ++ r :: [] ∧
        (∀ e, (filling.entry e).isValidAt r.slot r.offset = false) ∧ filling.cfg.lineLife ≠ 0#16 ∧
        filling.lineQuery r.slot (lineBase r.offset) = false ∧ filling.entry 1 = .invalid) := by decide

/-- Each phase of the write of example 3.11. -/
theorem witness_BeatPhases :
    (wordWrite 1 .setup none).phase = .setup ∧
      ((wordWrite 1 .strobe none).phase = .strobe ∧ (wordWrite 1 .strobe none).profile.readyLimit ≠ 0) ∧
      (wordWrite 1 .readyWait none).phase = .readyWait ∧
      ((wordWrite 1 .recovery none).phase = .recovery ∧ (wordWrite 1 .recovery none).endingFault = none ∧
        (wordWrite 1 .recovery none).index < (wordWrite 1 .recovery none).plan.length) ∧
      (busy (wordWrite 1 .setup none) []).sequencer = some (wordWrite 1 .setup none) ∧
      State.reset.sequencer = none ∧ (wordWrite 1 .recovery (some (.busDeclined, 1))).endingFault ≠ none ∧
      (wordWrite 2 .recovery none).plan.length ≤ (wordWrite 2 .recovery none).index := by decide

/-- A strobe with ready limit 0, a strobe with PRDY given, a ready wait; parity that holds and that fails. -/
theorem witness_TransferIsTakenAndSampled :
    (busy (wordRead .even 0 .strobe []) []).sequencer = some (wordRead .even 0 .strobe []) ∧
      (wordRead .even 0 .strobe []).profile.readyLimit = 0 ∧ (wordRead .even 16 .readyWait []).phase = .readyWait ∧
      (wordRead .even 16 .strobe []).phase = .strobe ∧ (wordRead .even 16 .strobe []).job.kind = .read ∧
      (wordWrite 1 .strobe none).job.kind ≠ .read ∧
      ParityHolds (wordRead .even 0 .strobe []).profile 0x1234#16 true ∧
      ¬ ParityHolds (wordRead .even 0 .strobe []).profile 0x1234#16 false := by
  refine ⟨by decide, by decide, by decide, by decide, by decide, by decide, ?_, ?_⟩
  · change (_ + _) % 2 = 0
    decide
  · change ¬ (_ + _) % 2 = 0
    decide

theorem witness_ThresholdWrite : (base.port 1).up = true := by decide

theorem witness_CancelReadsFreesReads : ((withPool [reader .queued]).port 1).up = true := by decide

theorem witness_WriteBeatDrivesDataAndParity :
    (wordWrite 1 .setup none).job.kind = .write 0xC381#16 ∧ (wordWrite 1 .setup none).profile.wide = false ∧
      (wordWrite 1 .setup none).index = 1 ∧ (wordWrite 2 .setup none).index = 2 ∧
      (wordWrite 1 .setup none).profile.parity ≠ .none := by decide

/-- A read that succeeded, a write that ended in a fault on its second beat, and an abandoned read. -/
theorem witness_CompletionOfAnAccess :
    let op := wordRead .none 0 .recovery [(0x0010#16, 0x34#8), (0x0011#16, 0x12#8)]
    let faulted := wordWrite 2 .recovery (some (.busDeclined, 2))
    ((busy op [reader (.onBus false), writer .queued]).sequencer = some op ∧ op.phase = .recovery ∧
      op.fillLine = none ∧ op.plan.length ≤ op.index ∧ op.endingFault = none ∧
      (busy op [reader (.onBus false), writer .queued]).pool = [] ++ reader (.onBus false) :: [writer .queued] ∧
      ∀ x ∈ [] ++ [writer .queued], ∀ y, x.state ≠ .onBus y) ∧
      (faulted.phase = .recovery ∧ faulted.fillLine = none ∧ faulted.endingFault = some (.busDeclined, 2) ∧
        (writer (.onBus false)).kind ≠ .read) ∧
      (reader (.onBus true)).kind = .read ∧
      (∀ op, State.reset.sequencer = some op →
        op.phase ≠ .recovery ∨ (op.endingFault = none ∧ op.index < op.plan.length)) :=
  ⟨by decide, by decide, by decide, nofun⟩

/-- A fill that is kept, one that is poisoned, one with a fault after its critical beat. -/
theorem witness_CompletionOfAFill :
    ((filling false).sequencer = some filled ∧ filled.phase = .recovery ∧ filled.fillLine = some (4, 0x0020#16) ∧
      filled.plan.length ≤ filled.index ∧ (filling false).entry 0 = .filling 4 0x0020#16 false ∧
      (filling false).pool = [] ++ filler :: [] ∧ filler.kind = .read ∧ (filling false).cfg.lineLife ≠ 0#16 ∧
      (filling false).lineQuery 4 0x0020#16 = false) ∧
      (filling true).entry 0 = .filling 4 0x0020#16 true ∧
      ({ filled with index := 2, endingFault := some (.busTimeout, 2) }).endingFault ≠ none ∧
      (filling false).lines.TagsUnique :=
  ⟨by decide, by decide, by decide, by unfold ReadAhead.TagsUnique; decide⟩

theorem witness_FinishedFillHasEveryByte :
    filled.Sound ∧ filled.fillLine = some (4, 0x0020#16) ∧ filled.phase = .recovery ∧ filled.endingFault = none ∧
      filled.index = filled.plan.length :=
  ⟨by unfold Operation.Sound; decide, by decide, by decide, by decide, by decide⟩

theorem witness_WordReadOnAnEightBitSlot :
    let op : Operation :=
      { wordRead .none 0 .setup [] with
        profile := { (wordRead .none 0 .setup []).profile with wide := false }
        plan := [0x0010#16, 0x0010#16 + 1#16] }
    (busy op [reader (.onBus false)]).sequencer = some op ∧ op.phase = .setup ∧ op.index = 1 ∧ op.job.kind = .read ∧
      op.job.offset = 0x0010#16 ∧ op.job.width = .word ∧ op.profile.parity = .none ∧ op.profile.readyLimit = 0 ∧
      op.fillLine = none ∧ op.collected = [] ∧ op.endingFault = none ∧
      (busy op [reader (.onBus false)]).pool = [] ++ reader (.onBus false) :: [] := by decide

/-- QUOTA of H3, the last quota, refuses 33 and takes 32. -/
theorem witness_IllegalValuesAreRefused :
    ((indexed 0x07#16).port 1).up = true ∧ Names (indexed 0x07#16) 1 (.quota 3) ∧
      ¬ LegalNumber (33#16).toNat (.quota 3) ∧ LegalNumber (32#16).toNat (.quota 3) :=
  ⟨by decide, rfl, by unfold LegalNumber; decide, by unfold LegalNumber; decide⟩

/-- An unmapped index; a named item with a legal value, the expected generation equal and not. -/
theorem witness_ConfigurationWrites :
    (∀ item, ¬ Names (indexed 0x40#16) 1 item) ∧ Names (indexed 0x02#16) 1 .lineLife ∧
      Item.lineLife.legal 0x00FF#16 = true ∧
      ((indexed 0x02#16).port 1).cfgExpect = (indexed 0x02#16).cfg.generation ∧
      (((indexed 0x02#16).modPort 1 fun p => { p with cfgExpect := 1 }).port 1).cfgExpect ≠
        (indexed 0x02#16).cfg.generation :=
  ⟨witness_ControlRegistersReadAndWrite.2.2.2, rfl, by decide, by decide, by decide⟩

/-- A mode word that disables slot S2, and a timing word of it. -/
theorem witness_ProfileWriteClearsAndDisables :
    (Names (indexed 0x18#16) 1 (.mode 2) ∧ (Item.mode 2).legal 0x0002#16 = true ∧ (0x0002#16).getLsbD 0 = false ∧
      exec (.cfgDataWrite 1 0x0002#16) (indexed 0x18#16) =
        .next (after (.cfgDataWrite 1 0x0002#16) (indexed 0x18#16))) ∧
      Names (indexed 0x1A#16) 1 (.timingB 2) ∧ (Item.timingB 2).legal 0x0004#16 = true :=
  ⟨⟨rfl, by decide, by decide, rfl⟩, rfl, by decide⟩

theorem witness_RefusedWriteChangesNothing :
    exec (.cfgDataWrite 1 0#16) (indexed 0#16) = .next (after (.cfgDataWrite 1 0#16) (indexed 0#16)) ∧
      ((after (.cfgDataWrite 1 0#16) (indexed 0#16)).port 1).answer = some (.fault .badValue) := ⟨rfl, by decide⟩

theorem witness_ConditionalWritesExclude :
    let s := (indexed 0x02#16).modPort 2 fun p => { p with cfgIndex := 0x01#16 }
    let t := after (.cfgCdataWrite 1 7#16) s
    (s.port 1).cfgExpect = (s.port 2).cfgExpect ∧ exec (.cfgCdataWrite 1 7#16) s = .next t ∧
      (t.port 1).answer = some .accept ∧ exec (.cfgCdataWrite 2 9#16) t = .next (after (.cfgCdataWrite 2 9#16) t) ∧
      (t.port 2).up = true ∧ Names t 2 .collectLimit ∧ Item.collectLimit.legal 9#16 = true :=
  ⟨by decide, rfl, by decide, rfl, by decide, rfl, by decide⟩

theorem witness_OnlyAcceptedWritesChangeTheSet :
    exec (.cfgDataWrite 1 7#16) (indexed 0x02#16) = .next (after (.cfgDataWrite 1 7#16) (indexed 0x02#16)) ∧
      (after (.cfgDataWrite 1 7#16) (indexed 0x02#16)).cfg ≠ (indexed 0x02#16).cfg := ⟨rfl, by decide⟩

/-- A host outside the route, and each state of the source for a host inside it. -/
theorem witness_ClaimResultWords :
    ((sourced .idle false).port 3).up = true ∧
      ((sourced .idle false).cfg.route 5).subscribers.getLsbD (3 : HostId).val = false ∧
      ((sourced .idle false).cfg.route 5).subscribers.getLsbD (1 : HostId).val = true ∧
      ((sourced .idle false).source 5).state = .idle ∧
      ((sourced (.raised 6 0) true).source 5).state = .raised 6 0 ∧
      ((sourced (.claimed 1 none) true).source 5).state = .claimed 1 none ∧
      ((sourced .stuck false).source 5).state = .stuck := by decide

theorem witness_ClaimsExclude :
    let s := sourced (.raised 0 100) true
    (1 : HostId) ≠ 0 ∧ exec (.claim 1 5) s = .next (after (.claim 1 5) s) ∧
      ((after (.claim 1 5) s).port 1).answer = some (.data 0x0001#16) ∧ ((after (.claim 1 5) s).port 0).up = true :=
  ⟨by decide, rfl, by decide, by decide⟩

/-- The values 8 and 7 lie on the two sides of the sources. -/
theorem witness_ReleaseAndRearm :
    ((sourced .idle false).port 1).up = true ∧ 8 ≤ (8#16).toNat ∧ (7#16).toNat = (7 : SourceId).val ∧
      (5#16).toNat = (5 : SourceId).val ∧ ((sourced (.claimed 1 (some 1)) true).source 5).state = .claimed 1 (some 1) ∧
      ((sourced .stuck true).source 5).state = .stuck ∧
      ((sourced .stuck true).cfg.route 5).subscribers.getLsbD (1 : HostId).val = true ∧
      ((sourced .stuck true).cfg.route 5).subscribers.getLsbD (3 : HostId).val = false := by decide

theorem witness_AttentionLineChanges :
    ((sourced .idle false).patn[5] = false ∧ (sourced .idle false).grst = false) ∧
      (sourced (.raised 0 1) true).patn[5] = true ∧ ({ sourced .idle true with grst := true }).grst = true := by decide

theorem witness_ClaimAndHoldTimeouts :
    ((sourced (.raised 1 0) true).source 5).state = .raised 1 0 ∧
      ((sourced (.claimed 1 (some 0)) true).source 5).state = .claimed 1 (some 0) ∧
      ((sourced (.raised 1 1) true).source 5).state = .raised 1 1 := by decide

/-- Writes of route word A of A5 by H1: H1 removed while it holds the source; the set emptied; H3 added while the source
is RAISED in round 1; the first subscriber of an IDLE source with its line active. -/
theorem witness_RouteChangeMovesSubscribers :
    let at3A := fun s : State => s.modPort 1 fun p => { p with cfgIndex := 0x3A#16 }
    let held := at3A (sourced (.claimed 1 none) true)
    let raised := at3A (sourced (.raised 1 9) true)
    let waiting := { at3A (sourced .idle true) with cfg := ConfigSet.reset }
    ((held.port 1).up = true ∧ Names held 1 (.routeA 5) ∧ (Item.routeA 5).legal 0x0325#16 = true ∧
      exec (.cfgDataWrite 1 0x0325#16) held = .next (after (.cfgDataWrite 1 0x0325#16) held) ∧
      (held.source 5).state = .claimed 1 none ∧ (held.cfg.route 5).subscribers = 0b0111#4) ∧
      ((Item.routeA 5).legal 0x0320#16 = true ∧ (raised.source 5).state = .raised 1 9) ∧
      ((Item.routeA 5).legal 0x032F#16 = true ∧ (raised.port 3).up = true ∧
        catchUp (raised.source 5) = some (.repeated 1)) ∧
      ((waiting.cfg.route 5).subscribers = 0#4 ∧ (waiting.source 5).state = .idle ∧
        (waiting.source 5).line = true) :=
  ⟨⟨by decide, rfl, by decide, rfl, by decide, by decide⟩, by decide, by decide, by decide⟩

theorem witness_PassEndsFullOrDrained :
    (oneRoom.port 1).up = true ∧ ((oneRoom.modPort 1 fun p => { p with up := false }).port 1).up = false ∧
      (oneRoom.port 1).queue.length ≤ 8 := by decide

/-- A waiting delivery of each class with room for one notice, and none. -/
theorem witness_PassPlacesByClass :
    let owed := oneRoom.modSource 3 fun src =>
      { src with owed := src.owed.set 1 (some { kind := .sourceStuck, priority := 0 }) }
    (oneRoom.port 1).up = true ∧ (oneRoom.port 1).queue.length < 8 ∧ oneRoom.pool = [] ∧
      8 ≤ ((queued (List.replicate 8 notice18)).port 1).queue.length ∧
      (oneRoom.port 1).changed = none ∧ (∀ n, (oneRoom.source n).forced[1] = none) ∧
      (∀ n, (oneRoom.source n).owed[1] = none) ∧
      ({ oneRoom with pool := [reader .orphaned, writer (.failed .slotOff none)] }).pool =
        [reader .orphaned] ++ writer (.failed .slotOff none) :: [] ∧
      (writer (.failed .slotOff none)).host = 1 ∧
      ({ oneRoom with pool := [reader .orphaned] }).pool = [] ++ reader .orphaned :: [] ∧
      ((oneRoom.modSource 3 fun src => { src with forced := src.forced.set 1 (some .holdExpired) }).source 3).forced[1] =
        some .holdExpired ∧
      (owed.source 3).owed[1] = some { kind := .sourceStuck, priority := 0 } ∧
      (∀ m, (owed.source m).owed[1] = none ∨ m = 3) ∧
      ((oneRoom.modPort 1 fun p => { p with changed := some 2 }).port 1).changed = some 2 := by decide

theorem witness_PlacementKeepsPriorityOrder :
    [notice12, notice18].Pairwise fun a b => b.priority ≤ a.priority := by decide

theorem witness_TickLowersEveryTimer :
    (lined 3).grst = false ∧ ({ State.reset with grst := true }).grst = true := by decide

theorem witness_TimersCountTicks :
    (lined 3).grst = false ∧ (lined 3).entry 0 = .valid 4 0x0020#16 lineBytes 3 ∧
      ((sourced (.raised 1 2) true).source 5).state = .raised 1 2 ∧
      ((sourced (.claimed 1 (some 2)) true).source 5).state = .claimed 1 (some 2) ∧ (3 : Nat) ≤ 3 ∧ (3 : Nat) = 2 + 1 := by
  decide

theorem witness_PortResetAndReturn :
    (State.reset.grst = false ∧ (State.reset.port 1).prst = false) ∧
      ((State.reset.modPort 1 fun p => { p with prst := true }).port 1).prst = true ∧
      ({ State.reset with grst := true }).grst = true := by decide

/-! ### States that meet the invariants, each with a step from it -/

/-- A full pool and the next request. -/
theorem witness_StepKeepsPoolBoundAndReadKeys :
    let s := { withPool (List.replicate 31 (writer .queued) ++ [reader .queued]) with
      pending := [.slotRead 0 2 0#16 .word] }
    s.PoolWithin ∧ s.ReadKeysUnique ∧ ∃ t, step s = .next t :=
  ⟨by unfold State.PoolWithin; decide, by unfold State.ReadKeysUnique; decide, _, rfl⟩

theorem witness_StepKeepsRecordsAndBusAgreement :
    let s := { busy (wordRead .none 0 .recovery []) [reader (.onBus false)] with pending := [.completion] }
    (∀ r ∈ s.pool, r.Sound) ∧ s.BusAgrees ∧ ∃ t, step s = .next t := by
  refine ⟨fun r hr => ?_, ⟨rfl, nofun⟩, _, rfl⟩
  rw [List.mem_singleton.1 hr]
  exact ⟨by decide, nofun, trivial⟩

theorem witness_StepKeepsPlanAndPins :
    let s := { filling false with pending := [.completion] }
    s.OperationSound ∧ s.PinsSound ∧ ∃ t, step s = .next t := by
  refine ⟨fun op hop => ?_, ⟨rfl, rfl, rfl, rfl, rfl⟩, _, rfl⟩
  cases hop
  exact witness_FinishedFillHasEveryByte.1

theorem witness_StepKeepsLinesInAgreement :
    let s := { filling true with pending := [.completion] }
    s.LinesAgree ∧ ∃ t, step s = .next t := by
  refine ⟨⟨⟨by decide, by decide⟩, ?_, ?_⟩, _, rfl⟩
  · unfold ReadAhead.TagsUnique
    decide
  · unfold State.FillAgrees
    decide

theorem witness_StepKeepsLinesFreshAndServed :
    let s := { lined 1 with pending := [.slotWrite 1 4 0x002F#16 .byte 7#16] }
    s.NoStaleLine ∧ s.ServedSlots ∧ ∃ t, step s = .next t := by
  refine ⟨fun e => ?_, ⟨fun e => ?_, nofun⟩, _, rfl⟩
  · fin_cases e <;> first | exact trivial | rfl
  · fin_cases e <;> first | exact trivial | exact ⟨rfl, rfl⟩

theorem witness_StepKeepsSourcesWithRoutesAndPorts :
    let s := { sourced (.raised 1 0) true with pending := [.claimTimeout 5] }
    s.SourcesSound ∧ ∃ t, step s = .next t := by
  refine ⟨⟨fun n => ?_, by decide, by decide⟩, _, rfl⟩
  fin_cases n <;> first | exact ⟨rfl, rfl, by decide⟩ | exact fun h => absurd h (by decide)

theorem witness_StepKeepsPortsQueuesAndNoticeLines :
    let s := { base.modPort 1 fun p => { p with queue := [notice12, notice18], nline := true } with
      pending := [.noticePop 1 0#16] }
    s.RoundsWithin ∧ s.PortLevels ∧ s.QueuesSound ∧ s.NoticeLines ∧ ∃ t, step s = .next t := by
  refine ⟨⟨fun n => ⟨?_, ?_⟩, by decide⟩, ?_, ?_, ?_, _, rfl⟩
  · intro round timer h
    have idle : ∀ m, (base.source m).state = .idle := by decide
    cases (idle n).symm.trans h
  · revert n
    decide
  · unfold State.PortLevels
    decide
  · unfold State.QueuesSound
    decide
  · unfold State.NoticeLines
    decide

theorem witness_StepKeepsTheSetTimebaseAndArbiter :
    let s := { base with timebase := { count := 99, divisor := 100 } }
    s.ConfigLegal ∧ s.TimebaseSound ∧ s.ArbiterSound ∧ ∃ t, step s = .next t :=
  ⟨configLegal_base, by unfold State.TimebaseSound; decide, by unfold State.ArbiterSound; decide, _, rfl⟩

end Sys2Proof.Tests
end

section
/-!
PROOFS. What an event can do to the request pool and the sequencer. `Thinned` relates a list to what is left of it when
each element is changed or freed; `PoolEvent` lists the six things that one event can do to the pool; every command is
one such event and a bus clock is a chain of them, so an invariant of the pool is proved once per kind of event.
-/

namespace Sys2Proof.Machine

open Sys2Proof.Statements

/-! ## Numbers of words -/

/-- The number of a word put together from two parts. -/
theorem toNat_append_add {m n : Nat} (high : BitVec m) (low : BitVec n) :
    (high ++ low).toNat = low.toNat + 2 ^ n * high.toNat := by
  rw [BitVec.toNat_append, Nat.shiftLeft_eq, Nat.mul_comm, ← Nat.two_pow_add_eq_or_of_lt low.isLt, Nat.add_comm]

/-- The number of a word whose upper eight bits are 0. -/
theorem toNat_byte (b : Byte) : (0#8 ++ b).toNat = b.toNat := (toNat_append_add 0#8 b).trans (by simp)

theorem toNat_byte_lt (b : Byte) : (0#8 ++ b).toNat < 256 := toNat_byte b ▸ b.isLt

/-! ## The tests of a record as propositions -/

/-- The record is a write exactly where its kind is not READ. -/
theorem Job.isWrite_eq_false {j : Job} : j.isWrite = false ↔ j.kind = .read := by
  unfold Job.isWrite
  cases j.kind <;> simp

theorem Job.isWrite_eq_true {j : Job} : j.isWrite = true ↔ j.kind ≠ .read := by
  rw [ne_eq, ← Job.isWrite_eq_false, Bool.not_eq_false]

@[simp] theorem Record.isQueued_iff {r : Record} : r.isQueued = true ↔ r.state = .queued := by
  unfold Record.isQueued
  cases r.state <;> simp

@[simp] theorem Record.isOnBus_iff {r : Record} : r.isOnBus = true ↔ ∃ abandoned, r.state = .onBus abandoned := by
  unfold Record.isOnBus
  cases r.state <;> simp

@[simp] theorem Record.isDone_iff {r : Record} : r.isDone = true ↔ ∃ result timer, r.state = .done result timer := by
  unfold Record.isDone
  cases r.state <;> simp

@[simp] theorem Record.isFailed_iff {r : Record} :
    r.isFailed = true ↔ ∃ fault partialWrite, r.state = .failed fault partialWrite := by
  unfold Record.isFailed
  cases r.state <;> simp

@[simp] theorem Record.isOrphaned_iff {r : Record} : r.isOrphaned = true ↔ r.state = .orphaned := by
  unfold Record.isOrphaned
  cases r.state <;> simp

/-- The candidates for read matching (R9). -/
theorem Record.isCandidate_iff {r : Record} :
    r.isCandidate = true ↔ r.kind = .read ∧
      (r.state = .queued ∨ r.state = .onBus false ∨ ∃ result timer, r.state = .done result timer) := by
  unfold Record.isCandidate
  rw [Bool.and_eq_true, Bool.not_eq_true', Job.isWrite_eq_false]
  cases r.state <;> simp

/-- The test of read matching is the statements' `Matches` (R9). -/
theorem Record.isMatch_iff {h : HostId} {slot : SlotId} {offset : Word} {width : Width} {r : Record} :
    r.isMatch h slot offset width = true ↔ Matches h slot offset width r := by
  simp only [Record.isMatch, Bool.and_eq_true, beq_iff_eq, Record.isCandidate_iff, Matches]
  tauto

/-- The test of the write-pending queries is the statements' `PendingWrite` (R13). -/
theorem Record.isPendingWrite_iff {r : Record} : r.isPendingWrite = true ↔ PendingWrite r := by
  simp only [Record.isPendingWrite, Bool.and_eq_true, Bool.or_eq_true, Record.isQueued_iff, Record.isOnBus_iff,
    Job.isWrite_eq_true, PendingWrite]

/-! ## Thinned lists -/

section Thinned

variable {α β : Type}

/-- `l'` is what is left of `l` where each element is changed as `change new old` allows, or freed where `free` does,
and the order stays. -/
inductive Thinned (change : α → α → Prop) (free : α → Prop) : List α → List α → Prop
  | nil : Thinned change free [] []
  | keep {x' x : α} {l' l : List α} : change x' x → Thinned change free l' l → Thinned change free (x' :: l') (x :: l)
  | drop {x : α} {l' l : List α} : free x → Thinned change free l' l → Thinned change free l' (x :: l)

namespace Thinned

variable {change : α → α → Prop} {free : α → Prop}

protected theorem refl (same : ∀ x, change x x) (l : List α) : Thinned change free l l := by
  induction l with
  | nil => exact .nil
  | cons x l ih => exact .keep (same x) ih

protected theorem trans (compose : ∀ {x y z}, change x y → change y z → change x z)
    (back : ∀ {x y}, change x y → free x → free y) {k l m : List α} (first : Thinned change free l m)
    (second : Thinned change free k l) : Thinned change free k m := by
  induction first generalizing k with
  | nil => exact second
  | keep c _ ih =>
    cases second with
    | keep c' rest => exact .keep (compose c' c) (ih rest)
    | drop f rest => exact .drop (back c f) (ih rest)
  | drop f _ ih => exact .drop f (ih second)

theorem mono {change' : α → α → Prop} {free' : α → Prop} (hc : ∀ {x y}, change x y → change' x y)
    (hf : ∀ {x}, free x → free' x) {l' l : List α} (t : Thinned change free l' l) : Thinned change' free' l' l := by
  induction t with
  | nil => exact .nil
  | keep c _ ih => exact .keep (hc c) ih
  | drop f _ ih => exact .drop (hf f) ih

/-- A list filtered and changed element by element is thinned. -/
theorem filterMap {f : α → Option α} {l : List α} (kept : ∀ x ∈ l, ∀ y, f x = some y → change y x)
    (freed : ∀ x ∈ l, f x = none → free x) : Thinned change free (l.filterMap f) l := by
  induction l with
  | nil => exact .nil
  | cons x l ih =>
    have rest := ih (fun y hy => kept y (by simp [hy])) (fun y hy => freed y (by simp [hy]))
    cases e : f x with
    | none => simpa [List.filterMap_cons, e] using .drop (freed x (by simp) e) rest
    | some y => simpa [List.filterMap_cons, e] using .keep (kept x (by simp) y e) rest

/-- A list changed element by element is thinned. -/
theorem map {f : α → α} (kept : ∀ x, change (f x) x) (l : List α) : Thinned change free (l.map f) l := by
  induction l with
  | nil => exact .nil
  | cons x l ih => exact .keep (kept x) ih

/-- A list without its first element that meets a test is thinned. -/
theorem eraseP {p : α → Bool} (same : ∀ x, change x x) (freed : ∀ x, p x = true → free x) (l : List α) :
    Thinned change free (l.eraseP p) l := by
  induction l with
  | nil => exact .nil
  | cons x l ih =>
    by_cases hx : p x = true
    · simpa [hx] using .drop (freed x hx) (.refl same l)
    · simpa [hx] using .keep (same x) ih

/-- A list with its first element that meets a test changed is thinned. -/
theorem updateFirst {p : α → Bool} {f : α → α} (same : ∀ x, change x x) (kept : ∀ x, p x = true → change (f x) x)
    (l : List α) : Thinned change free (updateFirst p f l) l := by
  induction l with
  | nil => exact .nil
  | cons x l ih =>
    unfold Machine.updateFirst
    split
    · exact .keep (kept x ‹_›) (.refl same l)
    · exact .keep (same x) ih

/-- One element of a list changed. -/
theorem middle (same : ∀ x, change x x) {x' x : α} (c : change x' x) (a b : List α) :
    Thinned change free (a ++ x' :: b) (a ++ x :: b) := by
  induction a with
  | nil => exact .keep c (.refl same b)
  | cons y a ih => exact .keep (same y) ih

/-- Nothing is left where every element is freed. -/
theorem empty (freed : ∀ x, free x) (l : List α) : Thinned change free [] l := by
  induction l with
  | nil => exact .nil
  | cons x l ih => exact .drop (freed x) ih

/-- One element of a list freed. -/
theorem freed (same : ∀ x, change x x) {x : α} (f : free x) (a b : List α) :
    Thinned change free (a ++ b) (a ++ x :: b) := by
  induction a with
  | nil => exact .drop f (.refl same b)
  | cons y a ih => exact .keep (same y) ih

theorem length_le {l' l : List α} (t : Thinned change free l' l) : l'.length ≤ l.length := by
  induction t with
  | nil => exact le_rfl
  | keep _ _ ih => exact Nat.succ_le_succ ih
  | drop _ _ ih => exact Nat.le_succ_of_le ih

/-- What is left comes from an element of the list. -/
theorem exists_of_mem {l' l : List α} (t : Thinned change free l' l) {x' : α} (h : x' ∈ l') :
    ∃ x ∈ l, change x' x := by
  induction t with
  | nil => simp at h
  | @keep y' y k' k c _ ih =>
    rcases List.mem_cons.1 h with rfl | h
    · exact ⟨y, by simp, c⟩
    · obtain ⟨x, hx, e⟩ := ih h
      exact ⟨x, by simp [hx], e⟩
  | drop _ _ ih =>
    obtain ⟨x, hx, e⟩ := ih h
    exact ⟨x, by simp [hx], e⟩

/-- A view that every change keeps is thinned to a sublist. -/
theorem map_sublist {view : α → β} (same : ∀ {x y}, change x y → view x = view y) {l' l : List α}
    (t : Thinned change free l' l) : (l'.map view).Sublist (l.map view) := by
  induction t with
  | nil => exact .slnil
  | keep c _ ih => simpa [same c] using ih
  | drop _ _ ih => exact ih.cons _

/-- A view of the elements that meet a test stays, where a change keeps test and view and no such element is freed. -/
theorem map_filter {p : α → Bool} {view : α → β} (same : ∀ {x y}, change x y → p x = p y ∧ view x = view y)
    (stays : ∀ {x}, free x → p x = false) {l' l : List α} (t : Thinned change free l' l) :
    (l'.filter p).map view = (l.filter p).map view := by
  induction t with
  | nil => rfl
  | @keep x' x _ _ c _ ih =>
    obtain ⟨hp, hv⟩ := same c
    cases h : p x <;> simp [h, hp.trans h, hv, ih]
  | drop f _ ih => simpa [stays f] using ih

/-- A relation between every two elements stays, where a change keeps it. -/
theorem pairwise {rel : α → α → Prop} (kept : ∀ {x' x y' y}, change x' x → change y' y → rel x y → rel x' y')
    {l' l : List α} (t : Thinned change free l' l) (h : l.Pairwise rel) : l'.Pairwise rel := by
  induction t with
  | nil => exact .nil
  | keep c rest ih =>
    obtain ⟨head, tail⟩ := List.pairwise_cons.1 h
    refine List.pairwise_cons.2 ⟨fun y' hy' => ?_, ih tail⟩
    obtain ⟨y, hy, c'⟩ := rest.exists_of_mem hy'
    exact kept c c' (head y hy)
  | drop _ _ ih => exact ih (List.pairwise_cons.1 h).2

end Thinned

end Thinned

/-! ## Changes of a record -/

/-- `r'` is the record `r` at a later moment: its identity stays, and it is no new candidate (R1, R9). -/
structure Record.Later (r' r : Record) : Prop where
  identity : identity r' = identity r
  candidate : r'.isCandidate = true → r.isCandidate = true

/-- A change of a record off the bus: besides, it is ON_BUS as before and sound if it was (R1, R2). -/
structure Record.Quiet (r' r : Record) : Prop extends Record.Later r' r where
  onBus : r'.isOnBus = r.isOnBus
  sound : r.Sound → r'.Sound

namespace Record

theorem Quiet.refl (r : Record) : Quiet r r := ⟨⟨rfl, id⟩, rfl, id⟩

theorem Quiet.trans {r'' r' r : Record} (second : Quiet r'' r') (first : Quiet r' r) : Quiet r'' r where
  identity := second.identity.trans first.identity
  candidate := first.candidate ∘ second.candidate
  onBus := second.onBus.trans first.onBus
  sound := second.sound ∘ first.sound

variable {r : Record}

/-- A READ's change of state that neither brings it on the bus nor makes it a candidate, and ends in no FAILED. -/
theorem Quiet.of_read {st : RecordState} (read : r.kind = .read)
    (candidate : ({ r with state := st } : Record).isCandidate = true → r.isCandidate = true)
    (onBus : ({ r with state := st } : Record).isOnBus = r.isOnBus) (failed : ∀ fault part, st ≠ .failed fault part)
    (byte : ∀ w timer, st = .done (.data w) timer → r.Sound → r.width = .byte → w.toNat < 256) :
    Quiet { r with state := st } r where
  identity := rfl
  candidate := candidate
  onBus := onBus
  sound := fun sound => by
    refine ⟨sound.1, sound.2.1, ?_⟩
    simp only [read]
    split <;> simp_all

/-- A cancel leaves each record it keeps quiet: an ON_BUS read is abandoned (R17). -/
theorem quiet_abandoned {abandoned : Bool} (read : r.kind = .read) (onBus : r.state = .onBus abandoned) :
    Quiet { r with state := .onBus true } r :=
  .of_read read (by simp [isCandidate_iff]) (by simp [isOnBus, onBus]) (by simp) (by simp)

/-- A DONE record keeps its result under another timer, or is orphaned (R16, R150). -/
theorem Quiet.of_done {result : ReadResult} {timer : Nat} {st : RecordState} (done : r.state = .done result timer)
    (next : (∃ timer', st = .done result timer') ∨ st = .orphaned) : Quiet { r with state := st } r where
  identity := rfl
  candidate := by rcases next with ⟨_, rfl⟩ | rfl <;> simp [isCandidate_iff, done]
  onBus := by rcases next with ⟨_, rfl⟩ | rfl <;> simp [isOnBus, done]
  sound := fun ⟨aligned, bytes, fields⟩ => by
    refine ⟨aligned, bytes, ?_⟩
    cases kind : r.kind with
    | write data => simp [kind, done] at fields
    | read => rcases next with ⟨_, rfl⟩ | rfl <;> cases result <;> simp_all

theorem quiet_timer {result : ReadResult} {timer : Nat} (timer' : Nat) (done : r.state = .done result timer) :
    Quiet { r with state := .done result timer' } r := .of_done done (.inl ⟨timer', rfl⟩)

theorem quiet_orphaned {result : ReadResult} {timer : Nat} (done : r.state = .done result timer) :
    Quiet { r with state := .orphaned } r := .of_done done (.inr rfl)

end Record

end Sys2Proof.Machine
end

section
/-!
PROOFS. The six kinds of event that the pool sees, and for each operation of the other units, of the pool itself and of
its requests, which of them it is.
-/

namespace Sys2Proof.Machine

open Sys2Proof.Statements

/-! ## The events of the pool -/

/-- A pool thinned by changes that leave the ON_BUS record where it is. -/
abbrev QuietPool : List Record → List Record → Prop := Thinned Record.Quiet fun r => r.isOnBus = false

theorem QuietPool.refl (l : List Record) : QuietPool l l := Thinned.refl Record.Quiet.refl l

theorem QuietPool.trans {k l m : List Record} (second : QuietPool k l) (first : QuietPool l m) : QuietPool k m :=
  Thinned.trans (change := Record.Quiet) .trans (fun c off => c.onBus.symm.trans off) first second

/-- The beat in progress has no parity fault, as is so of every write (R55). -/
def Operation.NoParityFault (op : Operation) : Prop := ∀ f ∈ op.endingFault, f.1 ≠ .busParity

/-- What one event can do to the pool and the sequencer. -/
inductive PoolEvent (s t : State) : Prop
  /-- Records off the bus are changed or freed. -/
  | quiet (pool : QuietPool t.pool s.pool) (sequencer : t.sequencer = s.sequencer)
  /-- A record is admitted at the tail (R7). -/
  | join (r : Record) (pool : t.pool = s.pool ++ [r]) (sequencer : t.sequencer = s.sequencer)
      (room : s.pool.length < Config.poolPlaces) (queued : r.state = .queued) (sound : r.Sound)
      (fresh : r.isCandidate = true → ∀ x ∈ s.pool, x.isMatch r.host r.slot r.offset r.width = false)
  /-- The operation in flight goes on (R51 to R56). -/
  | beat (op op' : Operation) (pool : t.pool = s.pool) (before : s.sequencer = some op)
      (after : t.sequencer = some op') (job : op'.job = op.job)
      (fault : op'.job.isWrite = true → op.NoParityFault → op'.NoParityFault)
  /-- A QUEUED record is issued to the IDLE sequencer (R47). -/
  | issue (a b : List Record) (r : Record) (op : Operation) (idle : s.sequencer = none) (before : s.pool = a ++ r :: b)
      (queued : r.state = .queued) (after : t.pool = a ++ { r with state := .onBus false } :: b)
      (sequencer : t.sequencer = some op) (job : op.job = r.toJob) (clean : op.endingFault = none)
  /-- The operation in flight completes (R62). -/
  | complete (op : Operation) (busy : s.sequencer = some op)
      (pool : t.pool = s.pool.filterMap (s.afterCompletion op.readOutcome op.writeOutcome)) (idle : t.sequencer = none)
  /-- Gateway reset empties the pool (R24). -/
  | reset (pool : t.pool = []) (idle : t.sequencer = none)

namespace PoolEvent

variable {s t u : State}

/-- An event that leaves pool and sequencer alone. -/
theorem of_same (pool : t.pool = s.pool) (sequencer : t.sequencer = s.sequencer) : PoolEvent s t :=
  .quiet (pool ▸ QuietPool.refl _) sequencer

/-- What follows in the same event and leaves pool and sequencer alone does not matter. -/
theorem before (e : PoolEvent s t) (pool : u.pool = t.pool) (sequencer : u.sequencer = t.sequencer) :
    PoolEvent s u := by
  cases e with
  | quiet p q => exact .quiet (pool ▸ p) (sequencer.trans q)
  | join r p q room queued sound fresh => exact .join r (pool.trans p) (sequencer.trans q) room queued sound fresh
  | beat op op' p before after job fault => exact .beat op op' (pool.trans p) before (sequencer.trans after) job fault
  | issue a b r op idle before queued after q job clean =>
    exact .issue a b r op idle before queued (pool.trans after) (sequencer.trans q) job clean
  | complete op busy p idle => exact .complete op busy (pool.trans p) (sequencer.trans idle)
  | reset p idle => exact .reset (pool.trans p) (sequencer.trans idle)

end PoolEvent

/-- An event that leaves the sequencer alone and its pool quiet, as one of the units' parts of an event is. -/
structure QuietStep (s t : State) : Prop where
  pool : QuietPool t.pool s.pool
  sequencer : t.sequencer = s.sequencer

theorem QuietStep.of_same {s t : State} (pool : t.pool = s.pool) (sequencer : t.sequencer = s.sequencer) :
    QuietStep s t := ⟨pool ▸ QuietPool.refl _, sequencer⟩

theorem QuietStep.refl (s : State) : QuietStep s s := .of_same rfl rfl

theorem QuietStep.trans {s t u : State} (first : QuietStep s t) (second : QuietStep t u) : QuietStep s u :=
  ⟨second.pool.trans first.pool, second.sequencer.trans first.sequencer⟩

/-- A quiet step behind one that leaves pool and sequencer alone. -/
theorem QuietStep.after {s t u : State} (second : QuietStep t u) (pool : t.pool = s.pool)
    (sequencer : t.sequencer = s.sequencer) : QuietStep s u := .trans (.of_same pool sequencer) second

theorem QuietStep.event {s t : State} (q : QuietStep s t) : PoolEvent s t := .quiet q.pool q.sequencer

/-! ## Slot requests -/

/-- The order of the tests of a slot write, and what an admitted one does (R8). -/
theorem State.slotWrite_cases (s : State) (h : HostId) (slot : SlotId) (offset : Word) (width : Width) (data : Word) :
    (∃ code, s.slotWrite h slot offset width data = (s, .fault code)) ∨
    (∃ reason, s.admissionRefusal h = some reason ∧ s.slotWrite h slot offset width data = (s, .retry reason)) ∨
    (¬ (width = .word ∧ offset.getLsbD 0 = true) ∧ s.admissionRefusal h = none ∧
      s.slotWrite h slot offset width data =
        ((s.join h
            { kind := .write (keepWidth width data), slot := slot, offset := offset, width := width }).invalidateWritten
          slot offset, .accept)) := by
  unfold State.slotWrite
  split
  · exact .inl ⟨_, rfl⟩
  · split
    · exact .inl ⟨_, rfl⟩
    · cases refusal : s.admissionRefusal h with
      | some reason => exact .inr (.inl ⟨reason, rfl, rfl⟩)
      | none => exact .inr (.inr ⟨‹_›, rfl, rfl⟩)

/-- What a slot read without a record can do: be refused, hit a line, or be admitted (R10, R11). -/
theorem State.slotReadUnmatched_cases (s : State) (h : HostId) (slot : SlotId) (offset : Word) (width : Width) :
    (∃ code, s.slotReadUnmatched h slot offset width = (s, .fault code)) ∨
    (∃ e, s.slotReadUnmatched h slot offset width = (s.touchLine e, .data (s.hitData e offset width))) ∨
    (∃ reason, s.admissionRefusal h = some reason ∧ s.slotReadUnmatched h slot offset width = (s, .retry reason)) ∨
    (¬ (width = .word ∧ offset.getLsbD 0 = true) ∧ s.admissionRefusal h = none ∧
      s.slotReadUnmatched h slot offset width =
        (s.join h { kind := .read, slot := slot, offset := offset, width := width }, .retry .pending)) := by
  unfold State.slotReadUnmatched
  split
  · exact .inl ⟨_, rfl⟩
  · split
    · exact .inl ⟨_, rfl⟩
    · split
      · exact .inr (.inl ⟨_, rfl⟩)
      · cases refusal : s.admissionRefusal h with
        | some reason => exact .inr (.inr (.inl ⟨reason, rfl, rfl⟩))
        | none => exact .inr (.inr (.inr ⟨‹_›, rfl, rfl⟩))

section Admission

variable {s : State} {h : HostId}

/-- The quota is tested first (R7). -/
theorem State.admissionRefusal_quotaFull (full : s.cfg.quotaOf h ≤ s.held h) :
    s.admissionRefusal h = some .quotaFull := if_pos full

/-- Below the quota the free places are tested (R7). -/
theorem State.admissionRefusal_poolFull (below : s.held h < s.cfg.quotaOf h)
    (full : Config.poolPlaces ≤ s.pool.length) : s.admissionRefusal h = some .poolFull :=
  (if_neg (not_le.2 below)).trans (if_pos full)

/-- No admission is refused exactly while the host is below its quota and a place is free (R7). -/
theorem State.admissionRefusal_eq_none :
    s.admissionRefusal h = none ↔ s.held h < s.cfg.quotaOf h ∧ s.pool.length < Config.poolPlaces := by
  rcases le_or_gt (s.cfg.quotaOf h) (s.held h) with full | below
  · simp [State.admissionRefusal_quotaFull full, full]
  · rcases le_or_gt Config.poolPlaces s.pool.length with full | room
    · simp [State.admissionRefusal_poolFull below full, full]
    · simp [State.admissionRefusal, not_le.2 below, not_le.2 room, below, room]

end Admission

/-- A BYTE's kept data have their upper eight bits 0 (R1). -/
theorem keepWidth_byte_lt (data : Word) : (keepWidth .byte data).toNat < 256 := by
  have : (data &&& 0x00FF#16).toNat ≤ 255 := by
    rw [BitVec.toNat_and]
    exact Nat.and_le_right
  exact Nat.lt_succ_of_le this

/-- A record is sound at its admission: aligned, and with its width's part of the data (R1, R10). -/
theorem State.joined_sound (s : State) (h : HostId) {job : Job}
    (aligned : ¬ (job.width = .word ∧ job.offset.getLsbD 0 = true))
    (byte : ∀ data, job.kind = .write data → job.width = .byte → data.toNat < 256) :
    Record.Sound { toJob := job, host := h, epoch := (s.port h).epoch, state := .queued } := by
  refine ⟨fun w => by simpa using fun o => aligned ⟨w, o⟩, byte, ?_⟩
  split <;> simp_all

theorem State.slotWrite_event (s : State) (h : HostId) (slot : SlotId) (offset : Word) (width : Width) (data : Word) :
    PoolEvent s (s.slotWrite h slot offset width data).1 := by
  rcases s.slotWrite_cases h slot offset width data with ⟨_, e⟩ | ⟨_, -, e⟩ | ⟨aligned, free, e⟩ <;>
    rw [e]
  · exact .of_same rfl rfl
  · exact .of_same rfl rfl
  · refine .join _ rfl rfl (State.admissionRefusal_eq_none.1 free).2 rfl (s.joined_sound h aligned ?_) ?_
    · rintro _ ⟨⟩ rfl
      exact keepWidth_byte_lt data
    · simp [Record.isCandidate_iff]

theorem State.slotReadUnmatched_event {s : State} {h : HostId} {slot : SlotId} {offset : Word} {width : Width}
    (unmatched : s.matching h slot offset width = none) : PoolEvent s (s.slotReadUnmatched h slot offset width).1 := by
  rcases s.slotReadUnmatched_cases h slot offset width with ⟨_, e⟩ | ⟨_, e⟩ | ⟨_, -, e⟩ | ⟨aligned, free, e⟩ <;>
    rw [e]
  · exact .of_same rfl rfl
  · exact .of_same rfl rfl
  · exact .of_same rfl rfl
  · refine .join _ rfl rfl (State.admissionRefusal_eq_none.1 free).2 rfl (s.joined_sound h aligned nofun) ?_
    exact fun _ x hx => by simpa using List.find?_eq_none.1 unmatched x hx

/-- What a slot read can do: collect the DONE record it finds, wait for the one it finds, or go on without one (R10). -/
theorem State.slotRead_cases (s : State) (h : HostId) (slot : SlotId) (offset : Word) (width : Width) :
    (∃ r result timer, s.matching h slot offset width = some r ∧ r.state = .done result timer ∧
      s.slotRead h slot offset width =
        ({ s with pool := s.pool.eraseP (Record.isMatch h slot offset width) }, result.answer)) ∨
    (∃ r, s.matching h slot offset width = some r ∧ r.isDone = false ∧
      s.slotRead h slot offset width = (s, .retry .pending)) ∨
    (s.matching h slot offset width = none ∧
      s.slotRead h slot offset width = s.slotReadUnmatched h slot offset width) := by
  unfold State.slotRead
  cases found : s.matching h slot offset width with
  | none => exact .inr (.inr ⟨rfl, rfl⟩)
  | some r =>
    cases st : r.state with
    | done result timer => exact .inl ⟨r, result, timer, rfl, st, by simp [st]⟩
    | _ => exact .inr (.inl ⟨r, rfl, by simp [Record.isDone, st], by simp [st]⟩)

/-- A collection frees the first record that has the key, which is DONE; the pool is quiet (R12). -/
theorem State.collect_quiet {s : State} {h : HostId} {slot : SlotId} {offset : Word} {width : Width} {r : Record}
    {result : ReadResult} {timer : Nat} (found : s.matching h slot offset width = some r)
    (done : r.state = .done result timer) : QuietPool (s.pool.eraseP (Record.isMatch h slot offset width)) s.pool := by
  obtain ⟨here, a, b, eq, before⟩ := List.find?_eq_some_iff_append.1 found
  rw [eq, eraseP_append_first (fun y hy => by simpa using before y hy) here]
  exact .freed .refl (by simp [Record.isOnBus, done]) a b

theorem State.slotRead_event (s : State) (h : HostId) (slot : SlotId) (offset : Word) (width : Width) :
    PoolEvent s (s.slotRead h slot offset width).1 := by
  rcases s.slotRead_cases h slot offset width with ⟨r, _, _, found, done, e⟩ | ⟨_, -, -, e⟩ | ⟨unmatched, e⟩ <;> rw [e]
  · exact .quiet (s.collect_quiet found done) rfl
  · exact .of_same rfl rfl
  · exact s.slotReadUnmatched_event unmatched

/-! ## Cancel, port reset and slot disable -/

/-- What a cancel keeps of a record is quiet, and what it frees is off the bus (R17). -/
theorem Record.afterCancel_quiet (h : HostId) (r : Record) :
    (∀ r', r.afterCancel h = some r' → Record.Quiet r' r) ∧ (r.afterCancel h = none → r.isOnBus = false) := by
  unfold Record.afterCancel
  split
  · obtain ⟨-, read⟩ := ‹r.host = h ∧ _›
    have read : r.kind = .read := Job.isWrite_eq_false.1 (by simpa using read)
    cases st : r.state with
    | onBus abandoned => simpa using Record.quiet_abandoned read st
    | _ => simp [Record.isOnBus, st, Record.Quiet.refl]
  · simp [Record.Quiet.refl]

/-- A port reset does as a cancel and frees ORPHANED reads, which are off the bus (R22). -/
theorem Record.afterPortReset_quiet (h : HostId) (r : Record) :
    (∀ r', r.afterPortReset h = some r' → Record.Quiet r' r) ∧ (r.afterPortReset h = none → r.isOnBus = false) := by
  unfold Record.afterPortReset
  split
  · have : r.state = .orphaned := by simp_all [Record.isOrphanedOf]
    simp [Record.isOnBus, this]
  · exact r.afterCancel_quiet h

theorem State.cancelReads_quiet (s : State) (h : HostId) : QuietStep s (s.cancelReads h) :=
  ⟨.filterMap (fun r _ => (r.afterCancel_quiet h).1) fun r _ => (r.afterCancel_quiet h).2, rfl⟩

/-- A slot disable leaves a record quiet: it takes QUEUED ones to DONE or FAILED (R21). -/
theorem State.afterDisable_quiet (s : State) (slot : SlotId) (r : Record) : Record.Quiet (s.afterDisable slot r) r := by
  unfold State.afterDisable
  split
  · obtain ⟨-, queued⟩ := ‹r.slot = slot ∧ _›
    have queued : r.state = .queued := Record.isQueued_iff.1 queued
    split
    · have write : r.kind ≠ .read := Job.isWrite_eq_true.1 ‹_›
      exact
        { identity := rfl
          candidate := by simp [Record.isCandidate_iff]
          onBus := by simp [Record.isOnBus, queued]
          sound := fun sound => by
            refine ⟨sound.1, sound.2.1, ?_⟩
            cases kind : r.kind with
            | read => exact absurd kind write
            | write data => cases s.cfg.wide slot <;> simp }
    · have read : r.kind = .read := Job.isWrite_eq_false.1 (Bool.not_eq_true _ ▸ ‹¬ r.isWrite = true›)
      exact .of_read read (by simp [Record.isCandidate_iff, read, queued])
        (by simp [Record.isOnBus, queued, State.doneState]) (by simp [State.doneState]) (by simp [State.doneState])
  · exact .refl r

theorem State.disableSlot_quiet (s : State) (slot : SlotId) : QuietStep s (s.disableSlot slot) :=
  ⟨.map (s.afterDisable_quiet slot) s.pool, rfl⟩

/-- The blocks informed of an accepted write leave the pool quiet (R21, R81, R143). -/
theorem State.inform_quiet (s : State) (old : ConfigSet) (item : Item) : QuietStep s (s.inform old item) := by
  cases item with
  | mode slot =>
    unfold State.inform
    dsimp only
    split
    · exact .of_same rfl rfl
    · exact (State.disableSlot_quiet (s.invalidateSlot slot) slot).after rfl rfl
  | _ => exact .of_same rfl rfl

theorem State.acceptWrite_quiet (s : State) (h : HostId) (item : Item) (v : Word) :
    QuietStep s (s.acceptWrite h item v) :=
  (State.inform_quiet _ s.cfg item).after rfl rfl

theorem State.cfgDataWrite_quiet (s : State) (h : HostId) (v : Word) : QuietStep s (s.cfgDataWrite h v).1 := by
  unfold State.cfgDataWrite
  split
  · exact .refl s
  · split
    · exact s.acceptWrite_quiet h _ v
    · exact .refl s

theorem State.cfgCdataWrite_quiet (s : State) (h : HostId) (v : Word) : QuietStep s (s.cfgCdataWrite h v).1 := by
  unfold State.cfgCdataWrite
  split
  · exact .refl s
  · split
    · exact .refl s
    · split
      · exact .refl s
      · exact s.acceptWrite_quiet h _ v

/-! ## Registers -/

theorem State.claim_quiet (s : State) (h : HostId) (n : SourceId) : QuietStep s (s.claim h n).1 := by
  unfold State.claim
  dsimp only
  split <;> exact .of_same rfl rfl

theorem State.release_quiet (s : State) (h : HostId) (value : Word) : QuietStep s (s.release h value).1 := by
  unfold State.release
  split
  · exact .refl s
  · split <;> exact .of_same rfl rfl

theorem State.rearm_quiet (s : State) (h : HostId) (value : Word) : QuietStep s (s.rearm h value).1 := by
  unfold State.rearm
  split
  · exact .refl s
  · split <;> exact .of_same rfl rfl

theorem State.pop_quiet (s : State) (h : HostId) : QuietStep s (s.pop h).1 := by
  unfold State.pop
  split <;> exact .of_same rfl rfl

theorem State.writeThreshold_quiet (s : State) (h : HostId) (value : Word) :
    QuietStep s (s.writeThreshold h value).1 := by
  unfold State.writeThreshold
  split <;> exact .of_same rfl rfl

theorem State.readReg_quiet (s : State) (h : HostId) (reg : ControlReg) : QuietStep s (s.readReg h reg).1 := by
  cases reg with
  | claim n => exact s.claim_quiet h n
  | _ => exact .of_same rfl rfl

theorem State.writeReg_quiet (s : State) (h : HostId) (value : Word) (reg : ControlReg) :
    QuietStep s (s.writeReg h value reg).1 := by
  cases reg with
  | noticePop => exact s.pop_quiet h
  | threshold => exact s.writeThreshold_quiet h value
  | cancelReads => exact s.cancelReads_quiet h
  | release => exact s.release_quiet h value
  | rearm => exact s.rearm_quiet h value
  | cfgData => exact s.cfgDataWrite_quiet h value
  | cfgCdata => exact s.cfgCdataWrite_quiet h value
  | _ => exact .of_same rfl rfl

/-- A decoded request is one event of the pool (R167). -/
theorem State.access_event (s : State) (h : HostId) (a : Access) : PoolEvent s (s.access h a).1 := by
  cases a with
  | slotRead slot offset width => exact s.slotRead_event h slot offset width
  | slotWrite slot offset width data => exact s.slotWrite_event h slot offset width data
  | readReg reg => exact (s.readReg_quiet h reg).event
  | writeReg reg value => exact (s.writeReg_quiet h value reg).event
  | badAddress => exact .of_same rfl rfl

/-- The taking of a request adds nothing at the pool: what its owner does is the event, and a DOWN port takes none. -/
theorem State.take_event {s : State} {h : HostId} {f : State → State × Answer} (e : PoolEvent s (f s).1) :
    PoolEvent s (s.take h f) := by
  cases up : (s.port h).up with
  | true =>
    rw [State.take_up up]
    exact e.before rfl rfl
  | false =>
    rw [State.take_down up]
    exact .of_same rfl rfl

/-! ## Notices, attention sources and timers -/

theorem State.endWaiting_quiet (s : State) (h : HostId) (d : Delivery) : QuietStep s (s.endWaiting h d) := by
  cases d with
  | failed r =>
    refine ⟨.eraseP Record.Quiet.refl (fun x hx => ?_) s.pool, rfl⟩
    obtain ⟨-, _, _, st⟩ : x.host = h ∧ ∃ fault part, x.state = .failed fault part := by
      simpa [Record.isFailedOf] using hx
    simp [Record.isOnBus, st]
  | orphaned r =>
    refine ⟨.eraseP Record.Quiet.refl (fun x hx => ?_) s.pool, rfl⟩
    obtain ⟨-, st⟩ : x.host = h ∧ x.state = .orphaned := by simpa [Record.isOrphanedOf] using hx
    simp [Record.isOnBus, st]
  | _ => exact .of_same rfl rfl

theorem State.placeUpTo_quiet (s : State) (h : HostId) (room : Nat) : QuietStep s (s.placeUpTo h room) := by
  induction room generalizing s with
  | zero => exact .refl s
  | succ room ih =>
    unfold State.placeUpTo
    split
    · exact .refl s
    · exact (s.endWaiting_quiet h _).trans ((ih (s.placeDelivery h _)).after rfl rfl)

theorem State.placementPass_quiet (s : State) (h : HostId) : QuietStep s (s.placementPass h) := by
  unfold State.placementPass
  split
  · exact s.placeUpTo_quiet h _
  · exact .refl s

theorem State.attentionLine_quiet (s : State) (n : SourceId) (level : Bool) :
    QuietStep s (s.attentionLine n level) := by
  unfold State.attentionLine
  split
  · exact .refl s
  · dsimp only
    split
    · exact .of_same rfl rfl
    · split <;> exact .of_same rfl rfl

theorem State.collectionExpiry_quiet (s : State) (h : HostId) (slot : SlotId) (offset : Word) (width : Width) :
    QuietStep s (s.collectionExpiry h slot offset width) := by
  refine ⟨.updateFirst Record.Quiet.refl (fun r expired => ?_) s.pool, rfl⟩
  unfold Record.isExpired at expired
  cases st : r.state with
  | done result timer => exact Record.quiet_orphaned st
  | _ => simp [st] at expired

theorem State.lifetimeExpiry_quiet (s : State) (e : EntryId) : QuietStep s (s.lifetimeExpiry e) := by
  unfold State.lifetimeExpiry
  split <;> exact .of_same rfl rfl

theorem Record.expireDue_quiet (r : Record) : Record.Quiet r.expireDue r := by
  rcases r.expireDue_cases with ⟨result, due, e⟩ | e <;> rw [e]
  · exact Record.quiet_orphaned due
  · exact .refl r

theorem Record.tick_quiet (r : Record) : Record.Quiet r.tick r := by
  unfold Record.tick
  split
  · exact Record.quiet_timer _ ‹_›
  · exact .refl r

theorem State.expireDue_quiet (s : State) : QuietStep s s.expireDue := ⟨.map Record.expireDue_quiet s.pool, rfl⟩

theorem State.tick_quiet (s : State) : QuietStep s s.tick := ⟨.map Record.tick_quiet s.pool, rfl⟩

theorem State.tickEvent_quiet (s : State) : QuietStep s s.tickEvent := by
  unfold State.tickEvent
  split
  · exact .refl s
  · exact s.expireDue_quiet.trans (State.tick_quiet _)

theorem State.divide_quiet (s : State) : QuietStep s s.divide := by
  unfold State.divide
  split
  · exact s.tick_quiet
  · exact .of_same rfl rfl

/-! ## Resets -/

theorem State.assertPrst_quiet (s : State) (h : HostId) : QuietStep s (s.assertPrst h) := by
  unfold State.assertPrst
  split
  · exact .refl s
  · dsimp only
    split
    · exact .of_same rfl rfl
    · exact ⟨.filterMap (fun r _ => (r.afterPortReset_quiet h).1) fun r _ => (r.afterPortReset_quiet h).2, rfl⟩

theorem State.deassertPrst_quiet (s : State) (h : HostId) : QuietStep s (s.deassertPrst h) := by
  unfold State.deassertPrst
  split
  · dsimp only
    split <;> exact .of_same rfl rfl
  · exact .refl s

theorem State.gatewayResetEnd_quiet (s : State) : QuietStep s s.gatewayResetEnd := by
  have returns : ∀ (hosts : List HostId) (u : State),
      QuietStep u (hosts.foldl (fun u h => if (u.port h).prst then u else u.returnToUp h) u) := by
    intro hosts
    induction hosts with
    | nil => exact .refl
    | cons h hosts ih =>
      refine fun u => QuietStep.trans ?_ (ih _)
      dsimp only
      split <;> exact .of_same rfl rfl
  unfold State.gatewayResetEnd
  split
  · exact (returns allHosts _).after rfl rfl
  · exact .refl s

end Sys2Proof.Machine
end

section
/-!
PROOFS. The sequencer's events; then every command as one event of the pool, and every step as a chain of them.
-/

namespace Sys2Proof.Machine

open Sys2Proof.Statements

/-! ## The beat -/

/-- The end of a beat's strobe keeps the operation's job, and its fault is BUS_PARITY on a READ only (R54 to R56). -/
theorem State.enterRecovery_event {s : State} {op op' : Operation} (busy : s.sequencer = some op)
    (job : op'.job = op.job) (fault : Option AccessFault)
    (parity : op'.job.isWrite = true → fault ≠ some .busParity) : PoolEvent s (s.enterRecovery op' fault) := by
  refine .beat op _ rfl busy rfl job fun write _ f hf => ?_
  cases fault with
  | none => cases hf
  | some code =>
    cases hf
    exact fun e => parity write (congrArg some e)

theorem State.takeTransfer_event {s : State} {op : Operation} (busy : s.sequencer = some op) (lanes : Word)
    (ppar : Bool) : PoolEvent s (s.takeTransfer op lanes ppar) := by
  rcases s.takeTransfer_cases op lanes ppar with ⟨-, e⟩ | ⟨-, -, e⟩ | ⟨read, -, e⟩ <;> rw [e]
  · exact State.enterRecovery_event busy rfl none (by simp)
  · exact State.enterRecovery_event busy (by rfl) none (by simp)
  · exact State.enterRecovery_event busy rfl _ (by simp [read])

theorem State.setupEnd_event (s : State) (pdcl : Bool) : PoolEvent s (s.setupEnd pdcl) := by
  unfold State.setupEnd
  split
  · next op busy =>
    split
    · split
      · exact State.enterRecovery_event busy rfl _ (by simp)
      · exact .beat op _ rfl busy rfl rfl fun _ => id
    · exact .of_same rfl rfl
  · exact .of_same rfl rfl

theorem State.strobePeriodEnd_event (s : State) (prdy : Bool) (lanes : Word) (ppar : Bool) :
    PoolEvent s (s.strobePeriodEnd prdy lanes ppar) := by
  unfold State.strobePeriodEnd
  split
  · next op busy =>
    split
    · split
      · exact s.takeTransfer_event busy lanes ppar
      · exact .beat op _ rfl busy rfl rfl fun _ => id
    · exact .of_same rfl rfl
  · exact .of_same rfl rfl

theorem State.ready_event (s : State) (lanes : Word) (ppar : Bool) : PoolEvent s (s.ready lanes ppar) := by
  unfold State.ready
  split
  · split
    · exact s.takeTransfer_event ‹_› lanes ppar
    · exact .of_same rfl rfl
  · exact .of_same rfl rfl

theorem State.decline_event (s : State) : PoolEvent s s.decline := by
  unfold State.decline
  split
  · split
    · exact State.enterRecovery_event ‹_› rfl _ (by simp)
    · exact .of_same rfl rfl
  · exact .of_same rfl rfl

theorem State.readyLimitExpiry_event (s : State) : PoolEvent s s.readyLimitExpiry := by
  unfold State.readyLimitExpiry
  split
  · split
    · exact State.enterRecovery_event ‹_› rfl _ (by simp)
    · exact .of_same rfl rfl
  · exact .of_same rfl rfl

theorem State.recoveryEnd_event (s : State) : PoolEvent s s.recoveryEnd := by
  unfold State.recoveryEnd
  split
  · next op busy =>
    split
    · exact .beat op _ rfl busy rfl rfl fun _ => id
    · exact .of_same rfl rfl
  · exact .of_same rfl rfl

/-! ## Completion and selection -/

@[simp] theorem State.fillEnd_pool (s : State) (slot : SlotId) (base : Word) (bytes : Option (Vector Byte 16)) :
    (s.fillEnd slot base bytes).pool = s.pool := by
  rcases s.fillEnd_cases slot base bytes with ⟨-, e⟩ | ⟨_, -, e⟩ | ⟨_, _, -, -, -, -, -, e⟩ <;> rw [e]

@[simp] theorem State.completeFill_pool (s : State) (op : Operation) : (s.completeFill op).pool = s.pool := by
  unfold State.completeFill
  split <;> simp

theorem State.completion_event (s : State) : PoolEvent s s.completion := by
  unfold State.completion
  split
  · split
    · exact .complete _ ‹_› (State.completeFill_pool (s.completeRecord _) _) rfl
    · exact .of_same rfl rfl
  · exact .of_same rfl rfl

/-- A selection completes from an entry only a READ (R36). -/
theorem State.completingEntry_read {s : State} {job : Job} {e : EntryId} (h : s.completingEntry job = some e) :
    job.kind = .read := by
  unfold State.completingEntry at h
  split at h
  · exact Job.isWrite_eq_false.1 (by simp_all)
  · cases h

/-- The data that a line delivers to a BYTE read have their upper eight bits 0 (R76). -/
theorem State.hitData_byte_lt (s : State) (e : EntryId) (offset : Word) : (s.hitData e offset .byte).toNat < 256 := by
  unfold State.hitData
  split
  · exact toNat_byte_lt _
  · simp

/-- A QUEUED read completed from a line is DONE with the line's data (R36). -/
theorem Record.quiet_completedFromLine {s : State} {r : Record} (e : EntryId) (read : r.kind = .read)
    (queued : r.state = .queued) :
    Quiet { r with state := s.doneState (.data (s.hitData e r.offset r.width)) } r :=
  .of_read read (by simp [isCandidate_iff, read, queued]) (by simp [isOnBus, queued, State.doneState])
    (by simp [State.doneState])
    (by
      rintro w timer ⟨⟩ - byte
      rw [byte]
      exact s.hitData_byte_lt e r.offset)

/-- The oldest QUEUED record changes its state where it stands (R35). -/
theorem State.setOldestQueued_pool {s : State} {h : HostId} {a b : List Record} {r : Record} (st : RecordState)
    (eq : s.pool = a ++ r :: b) (before : ∀ x ∈ a, x.isQueuedOf h = false) (here : r.isQueuedOf h = true) :
    (s.setOldestQueued h st).pool = a ++ { r with state := st } :: b := by
  simp only [State.setOldestQueued, eq, updateFirst_append before here]

@[simp] theorem State.issue_pool (s : State) (job : Job) : (s.issue job).pool = s.pool := by
  unfold State.issue
  dsimp only
  split <;> rfl

@[simp] theorem State.issue_sequencer (s : State) (job : Job) :
    (s.issue job).sequencer = some (s.issuedOperation job) := rfl

/-- The taken record is completed from a line, a quiet change, or issued (R35, R36, R47). -/
theorem State.takeRecord_event {s : State} {h : HostId} {r : Record} (arbiter : Arbiter) (idle : s.sequencer = none)
    (found : s.pool.find? (Record.isQueuedOf h) = some r) :
    PoolEvent s (State.takeRecord { s with arbiter := arbiter } h r) := by
  obtain ⟨here, a, b, eq, before⟩ := List.find?_eq_some_iff_append.1 found
  have before : ∀ x ∈ a, x.isQueuedOf h = false := fun x hx => by simpa using before x hx
  have queued : r.state = .queued := by simp_all [Record.isQueuedOf]
  generalize hu : ({ s with arbiter := arbiter } : State) = u
  have pool : u.pool = s.pool := hu ▸ rfl
  have sequencer : u.sequencer = s.sequencer := hu ▸ rfl
  have changed := fun st => u.setOldestQueued_pool st (pool.trans eq) before here
  unfold State.takeRecord
  split
  · next e entry =>
    refine .quiet ?_ sequencer
    rw [State.touchLine, changed, eq]
    exact .middle .refl (Record.quiet_completedFromLine e (State.completingEntry_read entry) queued) a b
  · exact .issue a b r _ idle eq queued ((State.issue_pool _ _).trans (changed _)) rfl rfl rfl

theorem State.selection_event (s : State) : PoolEvent s s.selection := by
  rcases s.selection_cases with e | ⟨h, q, r, idle, -, found, e⟩ <;> rw [e]
  · exact .of_same rfl rfl
  · exact State.takeRecord_event _ idle found

/-! ## Every command -/

/-- A command is one event of the pool. -/
theorem exec_event {c : Instr} {s t : State} (run : exec c s = .next t) : PoolEvent s t := by
  cases c with
  | slotRead h slot offset width => cases run; exact State.take_event (s.slotRead_event h slot offset width)
  | slotWrite h slot offset width data => cases run; exact State.take_event (s.slotWrite_event h slot offset width data)
  | unmappedRequest h word data => cases run; exact State.take_event (s.access_event h _)
  | portStatus h width offset => cases run; exact State.take_event (s.access_event h _)
  | noticePop h value => cases run; exact State.take_event (s.pop_quiet h).event
  | threshold h value => cases run; exact State.take_event (s.writeThreshold_quiet h value).event
  | cancelReads h value => cases run; exact State.take_event (s.cancelReads_quiet h).event
  | claim h n => cases run; exact State.take_event (s.claim_quiet h n).event
  | release h value => cases run; exact State.take_event (s.release_quiet h value).event
  | rearm h value => cases run; exact State.take_event (s.rearm_quiet h value).event
  | cfgDataWrite h value => cases run; exact State.take_event (s.cfgDataWrite_quiet h value).event
  | cfgCdataWrite h value => cases run; exact State.take_event (s.cfgCdataWrite_quiet h value).event
  | registerWrite h width offset value => cases run; exact State.take_event (s.access_event h _)
  | attentionLineActive n => cases run; exact (s.attentionLine_quiet n true).event
  | attentionLineInactive n => cases run; exact (s.attentionLine_quiet n false).event
  | tickEvent => cases run; exact s.tickEvent_quiet.event
  | collectionTimerExpiry h slot offset width => cases run; exact (s.collectionExpiry_quiet h slot offset width).event
  | lifetimeExpiry e => cases run; exact (s.lifetimeExpiry_quiet e).event
  | claimTimeout n => cases run; exact .of_same rfl rfl
  | holdTimeout n => cases run; exact .of_same rfl rfl
  | selection => cases run; exact s.selection_event
  | setupEnd pdcl => cases run; exact s.setupEnd_event pdcl
  | strobePeriodEnd prdy lanes ppar => cases run; exact s.strobePeriodEnd_event prdy lanes ppar
  | ready lanes ppar => cases run; exact s.ready_event lanes ppar
  | decline => cases run; exact s.decline_event
  | readyLimitExpiry => cases run; exact s.readyLimitExpiry_event
  | recoveryEnd => cases run; exact s.recoveryEnd_event
  | completion => cases run; exact s.completion_event
  | placementPass h => cases run; exact (s.placementPass_quiet h).event
  | portReset h => cases run; exact (s.assertPrst_quiet h).event
  | returnToUp h => cases run; exact (s.deassertPrst_quiet h).event
  | gatewayReset => cases run; exact .reset rfl rfl
  | gatewayResetEnd => cases run; exact s.gatewayResetEnd_quiet.event

/-! ## The bus clock -/

/-- A chain of events of the pool. -/
abbrev PoolEvents : State → State → Prop := Relation.ReflTransGen PoolEvent

theorem State.recoveryOver_events (s : State) : PoolEvents s s.recoveryOver :=
  .tail (.single s.recoveryEnd_event) (State.completion_event _)

theorem State.endShortRecovery_events (s : State) : PoolEvents s s.endShortRecovery := by
  unfold State.endShortRecovery
  split
  · split
    · exact s.recoveryOver_events
    · exact .refl
  · exact .refl

theorem State.endPhase_events (s : State) (op : Operation) : PoolEvents s (s.endPhase op) := by
  unfold State.endPhase
  split
  · exact .single (s.setupEnd_event false)
  · have sampled : PoolEvent s { s with samples := s.samples + 1 } := .of_same rfl rfl
    exact .head sampled (.single (State.strobePeriodEnd_event _ false _ _))
  · exact .single s.readyLimitExpiry_event
  · exact s.recoveryOver_events

theorem State.countPhase_events (s : State) : PoolEvents s s.countPhase := by
  unfold State.countPhase
  split
  · next op busy =>
    have counted : PoolEvent s { s with sequencer := some { op with phaseClocks := op.phaseClocks + 1 } } :=
      .beat op _ rfl busy rfl rfl fun _ => id
    dsimp only
    split
    · exact .head counted (State.endPhase_events _ _)
    · exact .single counted
  · exact .refl

theorem State.clock_events (s : State) : PoolEvents s s.clock := by
  unfold State.clock
  split
  · exact .refl
  · have settled : PoolEvents s s.settle := s.endShortRecovery_events.tail (State.expireDue_quiet _).event
    have divided : PoolEvents s s.settle.divide := settled.tail (State.divide_quiet _).event
    exact (divided.trans (State.countPhase_events _)).trans (State.endShortRecovery_events _)

/-- A step is a chain of events of the pool: one for a command, several on a bus clock. -/
theorem step_events {s t : State} (run : step s = .next t) : PoolEvents s t := by
  unfold step at run
  split at run
  · cases run
    exact s.clock_events
  · next c rest _ =>
    have taken : PoolEvent s { s with pending := rest } := .of_same rfl rfl
    exact .head taken (.single (exec_event run))

/-- What every event of the pool keeps, every step keeps. -/
theorem keeps_of_poolEvent {P : State → Prop} (kept : ∀ {s t}, PoolEvent s t → P s → P t) : Keeps P := by
  intro s t hs run
  have chain := step_events run
  clear run
  induction chain with
  | refl => exact hs
  | tail _ e ih => exact kept e ih

end Sys2Proof.Machine
end

section
/-!
PROOFS. The invariants of the pool, each shown for the six kinds of event: admission order, the bound, the unique read
keys, and the agreement of the records with the sequencer.
-/

namespace Sys2Proof.Machine

open Sys2Proof.Statements

/-! ## Order, bound and read keys -/

/-- What a completion keeps: a record off the bus as it is, an ON_BUS WRITE as FAILED, an ON_BUS READ that is not
abandoned as DONE (R14, R15). -/
theorem State.afterCompletion_cases {s : State} {readOutcome : ReadResult}
    {writeOutcome : Option (AccessFault × Option Bool)} {r r' : Record}
    (h : s.afterCompletion readOutcome writeOutcome r = some r') :
    (r.isOnBus = false ∧ r' = r) ∨
    (r.isOnBus = true ∧ r.kind ≠ .read ∧ ∃ w, writeOutcome = some w ∧ r' = { r with state := .failed w.1 w.2 }) ∨
    (r.state = .onBus false ∧ r.kind = .read ∧ r' = { r with state := s.doneState readOutcome }) := by
  unfold State.afterCompletion at h
  split at h
  · next abandoned onBus =>
    split at h
    · next write =>
      obtain ⟨w, outcome, rfl⟩ := Option.map_eq_some_iff.1 h
      exact .inr (.inl ⟨by simp [onBus], Job.isWrite_eq_true.1 write, w, outcome, rfl⟩)
    · next write =>
      have read : r.kind = .read := Job.isWrite_eq_false.1 (Bool.not_eq_true _ ▸ write)
      cases abandoned with
      | true => cases h
      | false => exact .inr (.inr ⟨onBus, read, (Option.some.inj h).symm⟩)
  · exact .inl ⟨by simp [Record.isOnBus], (Option.some.inj h).symm⟩

/-- The completion of the operation in flight frees its record or takes it off the bus, no new candidate (R14, R15). -/
theorem State.afterCompletion_later {s : State} {readOutcome : ReadResult}
    {writeOutcome : Option (AccessFault × Option Bool)} {r r' : Record}
    (h : s.afterCompletion readOutcome writeOutcome r = some r') : Record.Later r' r := by
  rcases State.afterCompletion_cases h with ⟨-, rfl⟩ | ⟨-, -, w, -, rfl⟩ | ⟨onBus, read, rfl⟩
  · exact ⟨rfl, id⟩
  · exact ⟨rfl, by simp [Record.isCandidate_iff]⟩
  · exact ⟨rfl, by simp [Record.isCandidate_iff, onBus, read]⟩

/-- The records that stay in the pool are later moments of its records, in their order. -/
abbrev LaterPool : List Record → List Record → Prop := Thinned Record.Later fun _ => True

/-- An event thins the pool to later moments of its records, or admits one record at the tail (R4, R7, R27). -/
theorem PoolEvent.pool_cases {s t : State} (e : PoolEvent s t) :
    LaterPool t.pool s.pool ∨
    ∃ r, t.pool = s.pool ++ [r] ∧ s.pool.length < Config.poolPlaces ∧
      (r.isCandidate = true → ∀ x ∈ s.pool, x.isMatch r.host r.slot r.offset r.width = false) := by
  have same (r : Record) : Record.Later r r := ⟨rfl, id⟩
  cases e with
  | quiet pool _ => exact .inl (pool.mono (fun c => c.toLater) fun _ => trivial)
  | join r pool _ room _ _ fresh => exact .inr ⟨r, pool, room, fresh⟩
  | beat _ _ pool _ _ _ _ =>
    rw [pool]
    exact .inl (.refl same s.pool)
  | issue a b r _ _ before queued after _ _ _ =>
    rw [before, after]
    have issued : Record.Later { r with state := .onBus false } r :=
      ⟨rfl, by simp +contextual [Record.isCandidate_iff, queued]⟩
    exact .inl (.middle same issued a b)
  | complete op _ pool _ =>
    rw [pool]
    exact .inl (Thinned.filterMap (fun _ _ _ => State.afterCompletion_later) fun _ _ _ => trivial)
  | reset pool _ =>
    rw [pool]
    exact .inl (.empty (fun _ => trivial) s.pool)

/-- The job of a record is part of its identity. -/
theorem Record.Later.job {r' r : Record} (h : Later r' r) : r'.toJob = r.toJob := congrArg (fun i => i.2.1) h.identity

/-- The key of a record is part of its identity. -/
theorem Record.Later.key {r' r : Record} (h : Later r' r) :
    r'.host = r.host ∧ r'.slot = r.slot ∧ r'.offset = r.offset ∧ r'.width = r.width :=
  ⟨congrArg Prod.fst h.identity, by rw [h.job], by rw [h.job], by rw [h.job]⟩

theorem PoolEvent.keeps_poolWithin {s t : State} (e : PoolEvent s t) (within : s.PoolWithin) : t.PoolWithin := by
  rcases e.pool_cases with later | ⟨r, pool, room, -⟩
  · exact later.length_le.trans within
  · unfold State.PoolWithin
    rw [pool, List.length_append]
    exact room

/-- A record with the key of a candidate is a match for that key (R9). -/
theorem Record.isMatch_of_key {x r : Record} (candidate : x.isCandidate = true)
    (key : x.host = r.host ∧ x.slot = r.slot ∧ x.offset = r.offset ∧ x.width = r.width) :
    x.isMatch r.host r.slot r.offset r.width = true := by
  obtain ⟨host, slot, offset, width⟩ := key
  simp [Record.isMatch, candidate, host, slot, offset, width]

theorem PoolEvent.keeps_readKeysUnique {s t : State} (e : PoolEvent s t) (unique : s.ReadKeysUnique) :
    t.ReadKeysUnique := by
  rcases e.pool_cases with later | ⟨r, pool, -, fresh⟩
  · refine later.pairwise (fun {x' x y' y} hx hy apart cx cy same => ?_) unique
    obtain ⟨hostx, slotx, offsetx, widthx⟩ := hx.key
    obtain ⟨hosty, sloty, offsety, widthy⟩ := hy.key
    rw [hostx, slotx, offsetx, widthx, hosty, sloty, offsety, widthy] at same
    exact apart (hx.candidate cx) (hy.candidate cy) same
  · unfold State.ReadKeysUnique
    rw [pool, List.pairwise_append]
    refine ⟨unique, List.pairwise_singleton _ _, fun x hx y hy cx cy key => ?_⟩
    obtain rfl := List.mem_singleton.1 hy
    exact absurd (Record.isMatch_of_key cx key) (by simp [fresh cy x hx])

/-! ## Sound records and the sequencer -/

/-- The records are sound and the sequencer agrees with the pool (R1, R46). -/
def State.PoolAgrees (s : State) : Prop := (∀ r ∈ s.pool, r.Sound) ∧ s.BusAgrees

/-- The ON_BUS record's fixed part is the job of the operation in flight (R46). -/
theorem State.BusAgrees.job_of_onBus {s : State} {op : Operation} {r : Record} (agrees : s.BusAgrees)
    (busy : s.sequencer = some op) (mem : r ∈ s.pool) (onBus : r.isOnBus = true) : r.toJob = op.job := by
  simp only [State.BusAgrees, busy] at agrees
  have : r.toJob ∈ (s.pool.filter Record.isOnBus).map Record.toJob :=
    List.mem_map_of_mem (List.mem_filter.2 ⟨mem, onBus⟩)
  simpa [agrees.1] using this

/-- The agreement of sequencer and pool looks only at the jobs of the ON_BUS records (R46). -/
theorem State.busAgrees_iff {s : State} :
    s.BusAgrees ↔ (s.pool.filter Record.isOnBus).map Record.toJob = s.sequencer.toList.map Operation.job ∧
      ∀ op ∈ s.sequencer, op.job.isWrite = true → op.NoParityFault := by
  unfold State.BusAgrees
  cases s.sequencer <;> simp [Operation.NoParityFault]

/-- A completed read's data have the upper eight bits 0 for a BYTE (R57, R175). -/
theorem Operation.readData_byte_lt {op : Operation} (byte : op.job.width = .byte) : op.readData.toNat < 256 := by
  simp only [Operation.readData, byte]
  exact toNat_byte_lt _

/-- A READ's outcome with data has the operation's collected value (R57). -/
theorem Operation.readOutcome_eq_data {op : Operation} {w : Word} (h : op.readOutcome = .data w) : w = op.readData := by
  unfold Operation.readOutcome at h
  split at h
  · exact (ReadResult.data.inj h).symm
  · split at h
    · exact (ReadResult.data.inj h).symm
    · cases h

/-- A WRITE's outcome has the fault of its operation, and partial yes on a WORD only (R15, R58). -/
theorem Operation.writeOutcome_eq_some {op : Operation} {w : AccessFault × Option Bool} (h : op.writeOutcome = some w) :
    (∃ f ∈ op.endingFault, f.1 = w.1) ∧ (w.2 = some true → op.job.width = .word) := by
  obtain ⟨f, hf, rfl⟩ := Option.map_eq_some_iff.1 h
  refine ⟨⟨f, hf, rfl⟩, ?_⟩
  cases op.profile.wide <;> simp +contextual

/-- The completion leaves a sound record sound (R14, R15). -/
theorem State.afterCompletion_sound {s : State} {op : Operation} {r r' : Record} (sound : r.Sound)
    (job : r.isOnBus = true → r.toJob = op.job) (parity : op.job.isWrite = true → op.NoParityFault)
    (h : s.afterCompletion op.readOutcome op.writeOutcome r = some r') : r'.Sound := by
  obtain ⟨aligned, bytes, -⟩ := id sound
  rcases State.afterCompletion_cases h with ⟨-, rfl⟩ | ⟨onBus, write, w, outcome, rfl⟩ | ⟨onBus, read, rfl⟩
  · exact sound
  · have job := job onBus
    obtain ⟨⟨f, hf, code⟩, partialYes⟩ := Operation.writeOutcome_eq_some outcome
    refine ⟨aligned, bytes, ?_⟩
    cases kind : r.kind with
    | read => exact absurd kind write
    | write data => exact ⟨code ▸ parity (job ▸ Job.isWrite_eq_true.2 write) f hf, fun yes => job ▸ partialYes yes⟩
  · have job := job (by simp [onBus])
    refine ⟨aligned, bytes, ?_⟩
    simp only [read, State.doneState]
    cases outcome : op.readOutcome with
    | fault f => trivial
    | data w =>
      intro byte
      rw [Operation.readOutcome_eq_data outcome]
      exact op.readData_byte_lt (job ▸ byte)

/-- No record is left ON_BUS by a completion (R14, R15). -/
theorem State.afterCompletion_offBus {s : State} {readOutcome : ReadResult}
    {writeOutcome : Option (AccessFault × Option Bool)} {r r' : Record}
    (h : s.afterCompletion readOutcome writeOutcome r = some r') : r'.isOnBus = false := by
  rcases State.afterCompletion_cases h with ⟨off, rfl⟩ | ⟨-, -, w, -, rfl⟩ | ⟨-, -, rfl⟩
  · exact off
  · rfl
  · rfl

/-- An issued record is sound: it was QUEUED (R2). -/
theorem Record.Sound.issued {r : Record} (sound : r.Sound) : Record.Sound { r with state := .onBus false } := by
  obtain ⟨aligned, bytes, -⟩ := sound
  refine ⟨aligned, bytes, ?_⟩
  cases r.kind <;> simp

theorem PoolEvent.keeps_poolAgrees {s t : State} (e : PoolEvent s t) (h : s.PoolAgrees) : t.PoolAgrees := by
  obtain ⟨sound, agrees⟩ := h
  obtain ⟨jobs, parity⟩ := State.busAgrees_iff.1 agrees
  cases e with
  | quiet pool sequencer =>
    refine ⟨fun r' hr' => ?_, State.busAgrees_iff.2 ?_⟩
    · obtain ⟨r, hr, c⟩ := pool.exists_of_mem hr'
      exact c.sound (sound r hr)
    · rw [sequencer, pool.map_filter (view := Record.toJob) (fun c => ⟨c.onBus, c.job⟩) id]
      exact ⟨jobs, parity⟩
  | join r pool sequencer _ queued joined _ =>
    refine ⟨fun x hx => ?_, State.busAgrees_iff.2 ?_⟩
    · rw [pool, List.mem_append, List.mem_singleton] at hx
      rcases hx with hx | rfl
      · exact sound x hx
      · exact joined
    · rw [sequencer, pool, List.filter_append]
      simpa [Record.isOnBus, queued] using ⟨jobs, parity⟩
  | beat op op' pool before after job fault =>
    refine ⟨pool ▸ sound, State.busAgrees_iff.2 ?_⟩
    rw [before] at jobs parity
    rw [pool, after]
    refine ⟨by simpa [job] using jobs, ?_⟩
    rintro _ ⟨⟩ write
    exact fault write (parity op rfl (job ▸ write))
  | issue a b r op idle before queued after sequencer job clean =>
    rw [before] at sound jobs
    rw [idle] at jobs
    refine ⟨fun x hx => ?_, State.busAgrees_iff.2 ⟨?_, ?_⟩⟩
    · rw [after, List.mem_append, List.mem_cons] at hx
      rcases hx with hx | rfl | hx
      · exact sound x (by simp [hx])
      · exact (sound r (by simp)).issued
      · exact sound x (by simp [hx])
    · obtain ⟨none_a, none_b⟩ : a.filter Record.isOnBus = [] ∧ b.filter Record.isOnBus = [] := by
        simpa [Record.isOnBus, queued] using jobs
      simp [after, sequencer, List.filter_cons, none_a, none_b, job, Record.isOnBus]
    · rw [sequencer]
      rintro _ ⟨⟩ - f hf
      cases clean ▸ hf
  | complete op busy pool idle =>
    have job : ∀ r ∈ s.pool, r.isOnBus = true → r.toJob = op.job := fun r hr => agrees.job_of_onBus busy hr
    refine ⟨fun r' hr' => ?_, State.busAgrees_iff.2 ⟨?_, by simp [idle]⟩⟩
    · rw [pool] at hr'
      obtain ⟨r, hr, eq⟩ := List.mem_filterMap.1 hr'
      exact State.afterCompletion_sound (sound r hr) (job r hr) (parity op busy) eq
    · rw [pool, idle, List.filter_eq_nil_iff.2]
      · rfl
      · intro r' hr'
        obtain ⟨r, -, eq⟩ := List.mem_filterMap.1 hr'
        simp [State.afterCompletion_offBus eq]
  | reset pool idle =>
    refine ⟨by simp [pool], State.busAgrees_iff.2 ?_⟩
    simp [pool, idle]

end Sys2Proof.Machine

namespace Sys2Proof.Proofs

open Sys2Proof.Machine Sys2Proof.Statements

/-- Settles O20: a command is one event of the pool, which thins the pool in order or admits one record at its tail. -/
theorem lanesKeepAdmissionOrder : Obligations.LanesKeepAdmissionOrder := by
  intro c s t run
  rcases (exec_event run).pool_cases with later | ⟨r, pool, -⟩
  · exact ⟨t.pool.map identity, [], by simp, later.map_sublist fun h => h.identity, by simp⟩
  · exact ⟨s.pool.map identity, [identity r], by simp [pool], .refl _, le_rfl⟩

/-- Settles O53: each event of the pool keeps the bound and the unique keys. -/
theorem stepKeepsPoolBoundAndReadKeys : Obligations.StepKeepsPoolBoundAndReadKeys :=
  ⟨keeps_of_poolEvent PoolEvent.keeps_poolWithin, keeps_of_poolEvent PoolEvent.keeps_readKeysUnique⟩

/-- Settles O54: each event of the pool keeps the records sound and the sequencer in agreement with them. -/
theorem stepKeepsRecordsAndBusAgreement : Obligations.StepKeepsRecordsAndBusAgreement :=
  keeps_of_poolEvent PoolEvent.keeps_poolAgrees

end Sys2Proof.Proofs
end

section
/-!
PROOFS. The requests that reach the pool: slot reads and writes, CANCEL_READS and PORT_STATUS, and the expiries of
collection and lifetime timers. The lookups are first said in the statements' own terms.
-/

namespace Sys2Proof.Machine

open Sys2Proof.Statements

/-! ## The lookups in the statements' terms -/

/-- What an UP port's owner decides is the next state with its answer on the link (R167). -/
theorem State.take_answering {s u : State} {h : HostId} {f : State → State × Answer} {a : Answer}
    (up : (s.port h).up = true) (decided : f s = (u, a)) : s.take h f = answering u h a := by
  rw [State.take_up up, decided]
  rfl

/-- The answer on the link after a request (R162, R167). -/
theorem State.answer_take (s : State) (h : HostId) (f : State → State × Answer) :
    ((s.take h f).port h).answer = if (s.port h).up then some (f s).2 else none := by
  unfold State.take
  split <;> simp

/-- The lane query asks for a write of the host still to be performed (R13). -/
theorem State.laneQuery_iff {s : State} {h : HostId} :
    s.laneQuery h = true ↔ ∃ x ∈ s.pool, x.host = h ∧ PendingWrite x := by
  simp [State.laneQuery, Record.isPendingWrite_iff]

/-- The line query asks for a write still to be performed into the line (R13). -/
theorem State.lineQuery_iff {s : State} {slot : SlotId} {base : Word} :
    s.lineQuery slot base = true ↔ WritePendingInLine s slot base := by
  simp [State.lineQuery, Record.isPendingWrite_iff, WritePendingInLine, Job.touchesLine]

/-- With unique lines one entry stands for a line (R70). -/
theorem ReadAhead.TagsUnique.entry_eq {s : State} (unique : s.lines.TagsUnique) {e f : EntryId} {tag : SlotId × Word}
    (he : (s.entry e).tag = some tag) (hf : (s.entry f).tag = some tag) : f = e :=
  unique f e (Option.isSome_iff_exists.2 ⟨tag, hf⟩) (hf.trans he.symm)

/-- With unique lines the lookup answers the VALID entry that covers the offset (R68, R70). -/
theorem State.validEntry_of_valid {s : State} {slot : SlotId} {offset : Word} {e : EntryId} {data : Vector Byte 16}
    {timer : Nat} (unique : s.lines.TagsUnique) (valid : s.entry e = .valid slot (lineBase offset) data timer) :
    s.validEntry slot offset = some e := by
  cases found : s.validEntry slot offset with
  | none => exact absurd valid (State.validEntry_eq_none.1 found e data timer)
  | some f =>
    obtain ⟨_, _, other⟩ := State.validEntry_eq_some found
    exact congrArg some (unique.entry_eq (congrArg LineEntry.tag valid) (congrArg LineEntry.tag other))

/-- The number that a line delivers, as a word (R76). -/
theorem lineData_toNat (data : Vector Byte 16) (offset : Word) (width : Width) :
    (lineData data offset width).toNat = lineNumber data offset width := by
  cases width with
  | byte => exact toNat_byte _
  | word => exact toNat_append_add _ _

/-- The data of a hit on a VALID entry (R76). -/
theorem State.hitData_of_valid {s : State} {e : EntryId} {slot : SlotId} {base : Word} {data : Vector Byte 16}
    {timer : Nat} (valid : s.entry e = .valid slot base data timer) (offset : Word) (width : Width) :
    (s.hitData e offset width).toNat = lineNumber data offset width := by
  rw [State.hitData, valid]
  exact lineData_toNat data offset width

/-- A read is matched by the first record that has its key (R9). -/
theorem State.matching_of_first {s : State} {h : HostId} {slot : SlotId} {offset : Word} {width : Width}
    {a b : List Record} {r : Record} (eq : s.pool = a ++ r :: b) (here : Matches h slot offset width r)
    (before : ∀ x ∈ a, ¬ Matches h slot offset width x) :
    s.matching h slot offset width = some r ∧ s.pool.eraseP (Record.isMatch h slot offset width) = a ++ b := by
  have here := Record.isMatch_iff.2 here
  have before : ∀ x ∈ a, x.isMatch h slot offset width = false := fun x hx => by
    simpa [← Record.isMatch_iff] using before x hx
  exact ⟨by rw [State.matching, eq, find?_append_first before here], by rw [eq, eraseP_append_first before here]⟩

/-- No record matches a read where none has its key (R9). -/
theorem State.matching_eq_none {s : State} {h : HostId} {slot : SlotId} {offset : Word} {width : Width} :
    s.matching h slot offset width = none ↔ ∀ x ∈ s.pool, ¬ Matches h slot offset width x := by
  simp [State.matching, ← Record.isMatch_iff]

/-! ## Slot requests, test by test -/

section SlotRequests

variable {s : State} {h : HostId} {slot : SlotId} {offset : Word} {width : Width} {r : Record}

theorem State.slotRead_done {result : ReadResult} {timer : Nat} (found : s.matching h slot offset width = some r)
    (done : r.state = .done result timer) :
    s.slotRead h slot offset width =
      ({ s with pool := s.pool.eraseP (Record.isMatch h slot offset width) }, result.answer) := by
  simp only [State.slotRead, found, done]

theorem State.slotRead_waiting (found : s.matching h slot offset width = some r)
    (waiting : r.state = .queued ∨ r.state = .onBus false) :
    s.slotRead h slot offset width = (s, .retry .pending) := by
  rcases waiting with st | st <;> simp only [State.slotRead, found, st]

theorem State.slotRead_unmatched (unmatched : s.matching h slot offset width = none) :
    s.slotRead h slot offset width = s.slotReadUnmatched h slot offset width := by
  simp only [State.slotRead, unmatched]

theorem State.slotReadUnmatched_misaligned (misaligned : width = .word ∧ offset.getLsbD 0 = true) :
    s.slotReadUnmatched h slot offset width = (s, .fault .align) := if_pos misaligned

theorem State.slotReadUnmatched_off (aligned : ¬ (width = .word ∧ offset.getLsbD 0 = true))
    (off : ¬ s.cfg.enabled slot = true) : s.slotReadUnmatched h slot offset width = (s, .fault .slotOff) :=
  (if_neg aligned).trans (if_pos off)

/-- The entry of an immediate line hit: the host has no write pending, and the slot is prefetchable (R11). -/
theorem State.slotReadUnmatched_hit {e : EntryId} (aligned : ¬ (width = .word ∧ offset.getLsbD 0 = true))
    (enabled : s.cfg.enabled slot = true) (prefetchable : s.cfg.prefetchable slot = true)
    (quiet : ¬ s.laneQuery h = true) (covered : s.validEntry slot offset = some e) :
    s.slotReadUnmatched h slot offset width = (s.touchLine e, .data (s.hitData e offset width)) := by
  have hit : (if s.cfg.prefetchable slot ∧ ¬ s.laneQuery h then s.validEntry slot offset else none) = some e :=
    (if_pos ⟨prefetchable, quiet⟩).trans covered
  simp only [State.slotReadUnmatched, aligned, enabled, hit, not_true_eq_false, if_false]

/-- No immediate hit: the slot is not prefetchable, the host has a write pending, or no entry covers the offset
(R11). -/
theorem State.hitEntry_eq_none
    (miss : ¬ s.cfg.prefetchable slot = true ∨ s.laneQuery h = true ∨ s.validEntry slot offset = none) :
    (if s.cfg.prefetchable slot ∧ ¬ s.laneQuery h then s.validEntry slot offset else none) = none := by
  rcases miss with off | writing | miss
  · exact if_neg fun c => off c.1
  · exact if_neg fun c => c.2 writing
  · rw [miss, ite_self]

theorem State.slotReadUnmatched_refused {reason : RetryReason} (aligned : ¬ (width = .word ∧ offset.getLsbD 0 = true))
    (enabled : s.cfg.enabled slot = true)
    (miss : ¬ s.cfg.prefetchable slot = true ∨ s.laneQuery h = true ∨ s.validEntry slot offset = none)
    (refusal : s.admissionRefusal h = some reason) :
    s.slotReadUnmatched h slot offset width = (s, .retry reason) := by
  simp only [State.slotReadUnmatched, aligned, enabled, State.hitEntry_eq_none miss, refusal, not_true_eq_false,
    if_false]

theorem State.slotReadUnmatched_admitted (aligned : ¬ (width = .word ∧ offset.getLsbD 0 = true))
    (enabled : s.cfg.enabled slot = true)
    (miss : ¬ s.cfg.prefetchable slot = true ∨ s.laneQuery h = true ∨ s.validEntry slot offset = none)
    (free : s.admissionRefusal h = none) :
    s.slotReadUnmatched h slot offset width =
      (s.join h { kind := .read, slot := slot, offset := offset, width := width }, .retry .pending) := by
  simp only [State.slotReadUnmatched, aligned, enabled, State.hitEntry_eq_none miss, free, not_true_eq_false, if_false]

variable {data : Word}

theorem State.slotWrite_misaligned (misaligned : width = .word ∧ offset.getLsbD 0 = true) :
    s.slotWrite h slot offset width data = (s, .fault .align) := if_pos misaligned

theorem State.slotWrite_off (aligned : ¬ (width = .word ∧ offset.getLsbD 0 = true))
    (off : ¬ s.cfg.enabled slot = true) : s.slotWrite h slot offset width data = (s, .fault .slotOff) :=
  (if_neg aligned).trans (if_pos off)

theorem State.slotWrite_refused {reason : RetryReason} (aligned : ¬ (width = .word ∧ offset.getLsbD 0 = true))
    (enabled : s.cfg.enabled slot = true) (refusal : s.admissionRefusal h = some reason) :
    s.slotWrite h slot offset width data = (s, .retry reason) := by
  simp only [State.slotWrite, aligned, enabled, refusal, not_true_eq_false, if_false]

theorem State.slotWrite_admitted (aligned : ¬ (width = .word ∧ offset.getLsbD 0 = true))
    (enabled : s.cfg.enabled slot = true) (free : s.admissionRefusal h = none) :
    s.slotWrite h slot offset width data =
      ((s.join h
          { kind := .write (keepWidth width data), slot := slot, offset := offset, width := width }).invalidateWritten
        slot offset, .accept) := by
  simp only [State.slotWrite, aligned, enabled, free, not_true_eq_false, if_false]

/-- Only a refused admission is answered POOL_FULL, on a read and on a write (R7, R167). -/
theorem State.slotRead_answer_poolFull (full : (s.slotRead h slot offset width).2 = .retry .poolFull) :
    s.admissionRefusal h = some .poolFull := by
  rcases s.slotRead_cases h slot offset width with ⟨r, result, timer, -, -, e⟩ | ⟨r, -, -, e⟩ | ⟨-, e⟩
  · cases result <;> simp [e, ReadResult.answer] at full
  · simp [e] at full
  · rw [e] at full
    rcases s.slotReadUnmatched_cases h slot offset width with
      ⟨_, e⟩ | ⟨_, e⟩ | ⟨_, refusal, e⟩ | ⟨-, -, e⟩ <;> simp_all

theorem State.slotWrite_answer_poolFull (full : (s.slotWrite h slot offset width data).2 = .retry .poolFull) :
    s.admissionRefusal h = some .poolFull := by
  rcases s.slotWrite_cases h slot offset width data with ⟨_, e⟩ | ⟨_, refusal, e⟩ | ⟨-, -, e⟩ <;> simp_all

end SlotRequests

/-! ## Held counts and quotas -/

/-- The held counts of the hosts add up to the records of the pool (R5). -/
theorem State.held_sum (s : State) : s.held 0 + s.held 1 + s.held 2 + s.held 3 = s.pool.length := by
  unfold State.held
  induction s.pool with
  | nil => rfl
  | cons r pool ih =>
    have one : ∀ g : HostId, (if (g == 0) = true then 1 else 0) + (if (g == 1) = true then 1 else 0) +
        (if (g == 2) = true then 1 else 0) + (if (g == 3) = true then 1 else 0) = 1 := by decide
    have := one r.host
    simp only [List.countP_cons, List.length_cons]
    omega

/-- A host below its quota finds a free place, while the quotas sum to 32 or less and no host is above its own (R6). -/
theorem State.room_of_quotas {s : State}
    (sum : (s.cfg.quota[0]).toNat + (s.cfg.quota[1]).toNat + (s.cfg.quota[2]).toNat + (s.cfg.quota[3]).toNat ≤ 32)
    (held : ∀ g, s.held g ≤ s.cfg.quotaOf g) {h : HostId} (below : s.held h < s.cfg.quotaOf h) :
    s.pool.length < Config.poolPlaces := by
  have total := s.held_sum
  have h0 : s.held 0 ≤ (s.cfg.quota[0]).toNat := held 0
  have h1 : s.held 1 ≤ (s.cfg.quota[1]).toNat := held 1
  have h2 : s.held 2 ≤ (s.cfg.quota[2]).toNat := held 2
  have h3 : s.held 3 ≤ (s.cfg.quota[3]).toNat := held 3
  have strict : s.held 0 < (s.cfg.quota[0]).toNat ∨ s.held 1 < (s.cfg.quota[1]).toNat ∨
      s.held 2 < (s.cfg.quota[2]).toNat ∨ s.held 3 < (s.cfg.quota[3]).toNat := by
    match h, below with
    | 0, below => exact .inl below
    | 1, below => exact .inr (.inl below)
    | 2, below => exact .inr (.inr (.inl below))
    | 3, below => exact .inr (.inr (.inr below))
  show s.pool.length < 32
  omega

/-! ## Lines after an admission -/

@[simp] theorem LineEntry.isInvalid_iff {entry : LineEntry} : entry.isInvalid = true ↔ entry = .invalid := by
  unfold LineEntry.isInvalid
  cases entry <;> simp

/-- A change of the lines, as the statements write it (R69). -/
theorem ReadAhead.change_eq (l : ReadAhead) (f : LineEntry → LineEntry) : l.change f = linesChanged l f := by
  have : ∀ entry : LineEntry, (!entry.isInvalid) = decide (entry ≠ .invalid) := fun entry => by
    cases entry <;> simp [LineEntry.isInvalid]
  simp only [ReadAhead.change, linesChanged, this]

theorem LineEntry.afterWrite_eq (slot : SlotId) (base : Word) :
    LineEntry.afterWrite slot base = overlapped slot base := by
  funext entry
  cases entry with
  | filling s b poisoned => by_cases c : s = slot ∧ b = base <;> simp [LineEntry.afterWrite, overlapped, c]
  | _ => rfl

/-! ## The two words of PORT_STATUS -/

/-- The first word holds three counts, each within its field (R178). -/
theorem State.statusFirst_toNat {s : State} {h : HostId} (queue : (s.port h).queue.length < 16)
    (done : s.doneCount h < 64) (held : s.held h < 64) :
    (s.statusFirst h).toNat = s.held h + 64 * s.doneCount h + 4096 * (s.port h).queue.length := by
  simp only [State.statusFirst, toNat_append_add, BitVec.toNat_ofNat]
  omega

/-- The second word holds NLINE, epoch and quota, each within its field (R178). -/
theorem State.statusSecond_toNat {s : State} {h : HostId} (quota : s.cfg.quotaOf h < 64) :
    (s.statusSecond h).toNat =
      s.cfg.quotaOf h + 256 * (s.port h).epoch.toNat + 32768 * (s.port h).nline.toNat := by
  simp only [State.statusSecond, toNat_append_add, BitVec.toNat_ofNat, BitVec.toNat_ofBool]
  omega

/-- A word with 0 in every bit from bit `k` on is less than `2 ^ k`. -/
theorem toNat_lt_of_and_eq_zero {v mask : Word} {k : Nat} (zero : v &&& mask = 0#16)
    (covers : ∀ i, i < 16 → k ≤ i → mask.getLsbD i = true) : v.toNat < 2 ^ k := by
  refine Nat.lt_pow_two_of_testBit _ fun i hi => ?_
  by_cases lt : i < 16
  · have bit : (v &&& mask).getLsbD i = false := by simp [zero]
    rw [BitVec.getLsbD_and, covers i lt hi, Bool.and_true] at bit
    exact bit
  · exact BitVec.getLsbD_of_ge v i (by omega)

/-- A legal quota lies between 1 and 32 (R129). -/
theorem legal_quota {h : HostId} {v : Word} (legal : Item.legal (.quota h) v = true) : 1 ≤ v.toNat ∧ v.toNat ≤ 32 := by
  obtain ⟨zero, range⟩ : v &&& 0xFFC0#16 = 0#16 ∧ 1 ≤ field v 0 6 ∧ field v 0 6 ≤ 32 := by
    simpa [Item.legal, Item.zeroBits, Item.fieldsInRange] using legal
  have small : v.toNat < 2 ^ 6 := toNat_lt_of_and_eq_zero zero (by decide)
  have whole : field v 0 6 = v.toNat := by
    simp only [field, BitVec.extractLsb'_toNat, Nat.shiftRight_zero]
    exact Nat.mod_eq_of_lt small
  rwa [whole] at range

/-! ## Cancel and expiries -/

theorem Record.afterCancel_eq (h : HostId) (r : Record) :
    r.afterCancel h =
      if r.host = h ∧ r.kind = .read then
        match r.state with
        | .queued => none
        | .done _ _ => none
        | .onBus _ => some { r with state := .onBus true }
        | .failed fault partialWrite => some { r with state := .failed fault partialWrite }
        | .orphaned => some { r with state := .orphaned }
      else some r := by
  unfold Record.afterCancel
  simp only [Bool.not_eq_true, Job.isWrite_eq_false]
  split
  · obtain ⟨job, host, epoch, st⟩ := r
    cases st <;> rfl
  · rfl

/-- A collection timer has run out on a DONE read of the key whose timer stands at 0 (R16). -/
theorem Record.isExpired_iff {h : HostId} {slot : SlotId} {offset : Word} {width : Width} {r : Record} :
    r.isExpired h slot offset width = true ↔
      Matches h slot offset width r ∧ ∃ result, r.state = .done result 0 := by
  unfold Record.isExpired
  rw [Bool.and_eq_true, Record.isMatch_iff]
  cases r.state <;> simp

end Sys2Proof.Machine

namespace Sys2Proof.Proofs

open Sys2Proof.Machine Sys2Proof.Statements

/-- Settles O9: the two words are read field by field, each value within its field by the invariants. -/
theorem portStatusTakesSixValues : Obligations.PortStatusTakesSixValues := by
  intro h s up within queues legal
  have queue : (s.port h).queue.length ≤ 8 := (queues h).1
  have held : s.held h ≤ 32 := List.countP_le_length.trans within
  have done : s.doneCount h ≤ 32 := List.countP_le_length.trans within
  obtain ⟨low, high⟩ : 1 ≤ s.cfg.quotaOf h ∧ s.cfg.quotaOf h ≤ 32 := legal_quota (legal (.quota h))
  refine ⟨s.statusFirst h, s.statusSecond h, ?_, ?_, held, done, queue, ?_, low, high⟩
  · exact congrArg Host.Outcome.next (State.take_answering up rfl)
  · exact State.statusFirst_toNat (by omega) (by omega) (by omega)
  · exact State.statusSecond_toNat (by omega)

/-- Settles O14, by the state of the first record that has the key. -/
theorem slotReadFindsItsRecord : Obligations.SlotReadFindsItsRecord := by
  intro h slot offset width s a r b up eq here before
  obtain ⟨found, erased⟩ := State.matching_of_first eq here before
  have collected {result timer} (done : r.state = .done result timer) :
      exec (.slotRead h slot offset width) s = .next (answering { s with pool := a ++ b } h result.answer) := by
    refine congrArg Host.Outcome.next (State.take_answering up ?_)
    rw [State.slotRead_done found done, erased]
  refine ⟨fun w timer done => ⟨collected done, fun sound byte => ?_⟩, fun fault timer done => collected done,
    fun waiting => ?_⟩
  · obtain ⟨read, -, -, -, hw, -⟩ := here
    have fields := sound.2.2
    rw [read, done] at fields
    exact fields (hw.trans byte)
  · exact congrArg Host.Outcome.next (State.take_answering up (State.slotRead_waiting found waiting))

/-- Settles O15, test by test of the ordered check. -/
theorem slotReadWithoutRecord : Obligations.SlotReadWithoutRecord := by
  intro h slot offset width s up unmatched misaligned enabled prefetchable writing
  have unmatched := State.slotRead_unmatched (State.matching_eq_none.2 unmatched)
  have decided {u a} (e : s.slotReadUnmatched h slot offset width = (u, a)) :
      exec (.slotRead h slot offset width) s = .next (answering u h a) :=
    congrArg Host.Outcome.next (State.take_answering up (unmatched.trans e))
  refine ⟨fun c => decided (State.slotReadUnmatched_misaligned c),
    fun aligned off => decided (State.slotReadUnmatched_off aligned off), fun aligned on => ⟨?_, fun miss => ?_⟩⟩
  · intro e data timer pre quiet unique valid
    have covered := State.validEntry_of_valid unique valid
    exact ⟨_, State.hitData_of_valid valid offset width,
      decided (State.slotReadUnmatched_hit aligned on pre (mt State.laneQuery_iff.1 quiet) covered)⟩
  · have miss := miss.imp id (Or.imp State.laneQuery_iff.2 State.validEntry_eq_none.2)
    refine ⟨fun full => decided ?_, fun below full => decided ?_, fun below room => decided ?_⟩
    · exact State.slotReadUnmatched_refused aligned on miss (State.admissionRefusal_quotaFull full)
    · exact State.slotReadUnmatched_refused aligned on miss (State.admissionRefusal_poolFull below full)
    · exact State.slotReadUnmatched_admitted aligned on miss (State.admissionRefusal_eq_none.2 ⟨below, room⟩)

/-- Settles O16, test by test. -/
theorem slotWriteIsAdmittedOrRefused : Obligations.SlotWriteIsAdmittedOrRefused := by
  intro h slot offset width data s up misaligned enabled
  have decided {u a} (e : s.slotWrite h slot offset width data = (u, a)) :
      exec (.slotWrite h slot offset width data) s = .next (answering u h a) :=
    congrArg Host.Outcome.next (State.take_answering up e)
  refine ⟨fun c => decided (State.slotWrite_misaligned c), fun aligned off => decided (State.slotWrite_off aligned off),
    fun aligned on => ⟨fun full => ?_, fun below full => ?_, fun below room => decided ?_⟩⟩
  · exact decided (State.slotWrite_refused aligned on (State.admissionRefusal_quotaFull full))
  · exact decided (State.slotWrite_refused aligned on (State.admissionRefusal_poolFull below full))
  · refine (State.slotWrite_admitted aligned on (State.admissionRefusal_eq_none.2 ⟨below, room⟩)).trans ?_
    simp only [State.invalidateWritten, ReadAhead.change_eq, LineEntry.afterWrite_eq]
    rfl

/-- Settles O17: a POOL_FULL would need a host below its quota and a full pool, against the sum of the quotas. -/
theorem quotaShareIsFree : Obligations.QuotaShareIsFree := by
  intro s sum held h slot offset width data t u read write
  cases read
  cases write
  have notFull : s.admissionRefusal h ≠ some .poolFull := by
    rcases le_or_gt (s.cfg.quotaOf h) (s.held h) with full | below
    · simp [State.admissionRefusal_quotaFull full]
    · simp [State.admissionRefusal_eq_none.2 ⟨below, State.room_of_quotas sum held below⟩]
  refine ⟨?_, ?_, fun up below on aligned => ?_⟩
  · rw [State.answer_take]
    split
    · exact fun full => notFull (State.slotRead_answer_poolFull (Option.some.inj full))
    · simp
  · rw [State.answer_take]
    split
    · exact fun full => notFull (State.slotWrite_answer_poolFull (Option.some.inj full))
    · simp
  · have free := State.admissionRefusal_eq_none.2 ⟨below, State.room_of_quotas sum held below⟩
    rw [State.answer_take, if_pos up, State.slotWrite_admitted aligned on free]

/-- Settles O18: a cancel acts on each record of the pool alone. -/
theorem cancelReadsFreesReads : Obligations.CancelReadsFreesReads := by
  intro h value s up
  exact congrArg Host.Outcome.next (State.take_answering up
    (congrArg (fun f => (({ s with pool := s.pool.filterMap f } : State), Answer.accept))
      (funext (Record.afterCancel_eq h))))

/-- Settles O19, by the first record that has expired and by the state of the entry. -/
theorem expiriesOfReadsAndLines : Obligations.ExpiriesOfReadsAndLines := by
  refine fun s => ⟨fun h slot offset width => ⟨fun a r b eq here before => ?_, fun noneDue => ?_⟩, fun e => ⟨?_, ?_⟩⟩
  · refine congrArg Host.Outcome.next ?_
    rw [State.collectionExpiry, eq, updateFirst_append _ (Record.isExpired_iff.2 here)]
    exact fun x hx => by simpa [← Record.isExpired_iff] using before x hx
  · refine congrArg Host.Outcome.next ?_
    rw [State.collectionExpiry, updateFirst_none]
    exact fun x hx => by simpa [← Record.isExpired_iff] using noneDue x hx
  · intro slot base data due
    refine congrArg Host.Outcome.next ?_
    rw [State.lifetimeExpiry, due]
    rfl
  · intro notDue
    refine congrArg Host.Outcome.next ?_
    unfold State.lifetimeExpiry
    split
    · exact absurd ‹_› (notDue _ _ _)
    · rfl

end Sys2Proof.Proofs
end

section
/-!
PROOFS. The three ways in which a record completes: from a line at its selection, by a single access, and by a fill.
-/

namespace Sys2Proof.Machine

open Sys2Proof.Statements

/-! ## Completion from a line -/

/-- A QUEUED record of the host, behind records that are none, is the one a selection takes (R35). -/
theorem State.find?_queued {s : State} {g : HostId} {a b : List Record} {r : Record} (eq : s.pool = a ++ r :: b)
    (host : r.host = g) (queued : r.state = .queued) (before : ∀ x ∈ a, ¬ (x.host = g ∧ x.state = .queued)) :
    (∀ x ∈ a, x.isQueuedOf g = false) ∧ r.isQueuedOf g = true ∧ s.pool.find? (Record.isQueuedOf g) = some r := by
  have before : ∀ x ∈ a, x.isQueuedOf g = false := fun x hx => by
    simpa [← Bool.not_eq_true, Record.isQueuedOf] using before x hx
  have here : r.isQueuedOf g = true := by simp [Record.isQueuedOf, host, queued]
  exact ⟨before, here, eq ▸ find?_append_first before here⟩

/-- A selection that is due takes the holder's oldest QUEUED record (R33 to R35). -/
theorem State.selection_taken {s : State} {g : HostId} {q : Nat} {r : Record} (idle : s.sequencer = none)
    (grant : s.grant = some (g, q)) (found : s.pool.find? (Record.isQueuedOf g) = some r) :
    s.selection = State.takeRecord { s with arbiter := { holder := some g, quantum := q - 1 } } g r := by
  simp [State.selection, idle, grant, found]

/-- A record that a VALID line covers is completed from it (R36). -/
theorem State.takeRecord_completed {s : State} {g : HostId} {a b : List Record} {r : Record} {e : EntryId}
    (entry : s.completingEntry r.toJob = some e) (eq : s.pool = a ++ r :: b)
    (before : ∀ x ∈ a, x.isQueuedOf g = false) (here : r.isQueuedOf g = true) :
    s.takeRecord g r =
      { s with
        pool :=
          a ++ { r with state := .done (.data (s.hitData e r.offset r.width)) s.cfg.collectLimit.toNat } :: b
        lines := hitLines s.lines e } := by
  simp only [State.takeRecord, entry, State.touchLine, State.setOldestQueued, eq, updateFirst_append before here]
  rfl

/-! ## The completion of an operation -/

/-- The operation ends with the beat in progress exactly where it has faulted or is the last of the plan (R56). -/
theorem Operation.lastBeat_iff {op : Operation} :
    op.lastBeat = true ↔ op.endingFault ≠ none ∨ op.plan.length ≤ op.index := by
  simp [Operation.lastBeat, ← Option.isSome_iff_ne_none]

/-- A completion that is due: the record's outcome, the fill end, and the sequencer IDLE (R62). -/
theorem State.completion_due {s : State} {op : Operation} (busy : s.sequencer = some op) (phase : op.phase = .recovery)
    (last : op.endingFault ≠ none ∨ op.plan.length ≤ op.index) :
    s.completion = { (s.completeRecord op).completeFill op with sequencer := none } := by
  have last := Operation.lastBeat_iff.2 last
  simp only [State.completion, busy, phase, last, and_self, if_true]

/-- No completion is taken before the RECOVERY of a last or faulted beat (R56). -/
theorem State.completion_notDue {s : State}
    (notDue : ∀ op, s.sequencer = some op →
      op.phase ≠ .recovery ∨ (op.endingFault = none ∧ op.index < op.plan.length)) : s.completion = s := by
  unfold State.completion
  split
  · next op busy =>
    refine if_neg fun due => ?_
    rcases notDue op busy with phase | ⟨clean, further⟩
    · exact phase due.1
    · rcases Operation.lastBeat_iff.1 due.2 with faulted | last
      · exact faulted clean
      · omega
  · rfl

/-- What a completion leaves of a list with one ON_BUS record: that record's outcome in its place (R14, R15). -/
theorem State.filterMap_afterCompletion {s : State} {readOutcome : ReadResult}
    {writeOutcome : Option (AccessFault × Option Bool)} {a b : List Record} {r : Record}
    (alone : ∀ x ∈ a ++ b, ∀ y, x.state ≠ .onBus y) :
    (a ++ r :: b).filterMap (s.afterCompletion readOutcome writeOutcome) =
      a ++ ((s.afterCompletion readOutcome writeOutcome r).toList ++ b) := by
  have stays (l : List Record) (off : ∀ x ∈ l, ∀ y, x.state ≠ .onBus y) :
      l.filterMap (s.afterCompletion readOutcome writeOutcome) = l := by
    conv_rhs => rw [← List.filterMap_some (l := l)]
    refine List.filterMap_congr fun x hx => ?_
    unfold State.afterCompletion
    split
    · exact absurd ‹_› (off x hx _)
    · rfl
  rw [List.filterMap_append, List.filterMap_cons, stays a fun x hx => alone x (by simp [hx]),
    stays b fun x hx => alone x (by simp [hx])]
  cases s.afterCompletion readOutcome writeOutcome r <;> rfl

theorem State.completeRecord_pool {s : State} {a b : List Record} {r : Record} (eq : s.pool = a ++ r :: b)
    (alone : ∀ x ∈ a ++ b, ∀ y, x.state ≠ .onBus y) (op : Operation) :
    (s.completeRecord op).pool = a ++ ((s.afterCompletion op.readOutcome op.writeOutcome r).toList ++ b) :=
  (congrArg _ eq).trans (State.filterMap_afterCompletion alone)

section Outcomes

variable {s : State} {readOutcome : ReadResult} {writeOutcome : Option (AccessFault × Option Bool)} {r : Record}

theorem State.afterCompletion_abandoned (read : r.kind = .read) (onBus : r.state = .onBus true) :
    s.afterCompletion readOutcome writeOutcome r = none := by
  simp [State.afterCompletion, onBus, Job.isWrite_eq_false.2 read]

theorem State.afterCompletion_read (read : r.kind = .read) (onBus : r.state = .onBus false) :
    s.afterCompletion readOutcome writeOutcome r =
      some { r with state := .done readOutcome s.cfg.collectLimit.toNat } := by
  simp [State.afterCompletion, onBus, Job.isWrite_eq_false.2 read, State.doneState]

theorem State.afterCompletion_write {abandoned : Bool} (write : r.kind ≠ .read) (onBus : r.state = .onBus abandoned) :
    s.afterCompletion readOutcome writeOutcome r =
      writeOutcome.map fun w => { r with state := .failed w.1 w.2 } := by
  simp [State.afterCompletion, onBus, Job.isWrite_eq_true.2 write]

end Outcomes

/-- The value that a READ's operation has collected, as a word (R57). -/
theorem Operation.readData_toNat (op : Operation) : op.readData.toNat = collectedNumber op := by
  unfold Operation.readData collectedNumber
  cases op.job.width with
  | byte => exact toNat_byte _
  | word => exact toNat_append_add _ _

/-- A READ has its data where no beat faulted, or only one behind the critical beats of a fill (R57, R61). -/
theorem Operation.readOutcome_data {op : Operation}
    (kept : ∀ fault i, op.endingFault = some (fault, i) → op.fillLine.isSome = true ∧ op.criticalBeats < i) :
    op.readOutcome = .data op.readData := by
  unfold Operation.readOutcome
  split
  · rfl
  · exact if_pos (kept _ _ ‹_›)

/-- A READ has the fault of a single access, or of a critical beat of a fill (R57, R60). -/
theorem Operation.readOutcome_fault {op : Operation} {fault : AccessFault} {i : Nat}
    (ended : op.endingFault = some (fault, i)) (lost : ¬ (op.fillLine.isSome = true ∧ op.criticalBeats < i)) :
    op.readOutcome = .fault fault := by
  simp only [Operation.readOutcome, ended, if_neg lost]

theorem Operation.criticalBeats_eq (op : Operation) :
    op.criticalBeats = if op.profile.wide = false ∧ op.job.width = .word then 2 else 1 := by
  simp [Operation.criticalBeats]

/-! ## The fill end -/

/-- With unique lines the fill end finds the entry that is FILLING for the line (R70, R72). -/
theorem State.fillingEntry_of_filling {s : State} {slot : SlotId} {base : Word} {e : EntryId} {poisoned : Bool}
    (unique : s.lines.TagsUnique) (filling : s.entry e = .filling slot base poisoned) :
    s.fillingEntry slot base = some e := by
  cases found : s.fillingEntry slot base with
  | none => exact absurd filling (State.fillingEntry_eq_none.1 found e poisoned)
  | some f =>
    obtain ⟨_, other⟩ := State.fillingEntry_eq_some found
    exact congrArg some (unique.entry_eq (congrArg LineEntry.tag filling) (congrArg LineEntry.tag other))

section FillEnd

variable {s : State} {slot : SlotId} {base : Word} {e : EntryId} {poisoned : Bool} {bytes : Option (Vector Byte 16)}

/-- A line that is lost is dropped (R72). -/
theorem State.fillEnd_lost (found : s.fillingEntry slot base = some e)
    (filling : s.entry e = .filling slot base poisoned)
    (lost : bytes = none ∨ poisoned = true ∨ s.lineQuery slot base = true ∨ s.cfg.lineLife = 0#16) :
    s.fillEnd slot base bytes = { s with lines := s.lines.drop e } := by
  simp only [State.fillEnd, found, filling, LineEntry.isPoisoned]
  cases bytes with
  | none => rfl
  | some data => exact if_pos (lost.resolve_left nofun)

/-- A line that is not lost is VALID with the fill's bytes (R72). -/
theorem State.fillEnd_kept {data : Vector Byte 16} (found : s.fillingEntry slot base = some e)
    (filling : s.entry e = .filling slot base poisoned)
    (kept : ¬ (poisoned = true ∨ s.lineQuery slot base = true ∨ s.cfg.lineLife = 0#16)) :
    s.fillEnd slot base (some data) =
      { s with lines := s.lines.place e (.valid slot base data s.cfg.lineLife.toNat) } := by
  simp only [State.fillEnd, found, filling, LineEntry.isPoisoned]
  exact if_neg kept

/-- A fill end changes nothing but the lines. -/
theorem State.fillEnd_eq (s : State) (slot : SlotId) (base : Word) (bytes : Option (Vector Byte 16)) :
    s.fillEnd slot base bytes = { s with lines := (s.fillEnd slot base bytes).lines } := by
  rcases s.fillEnd_cases slot base bytes with ⟨-, e⟩ | ⟨_, -, e⟩ | ⟨_, _, -, -, -, -, -, e⟩ <;> rw [e]

end FillEnd

/-- The completion of a READ leaves the writes still to be performed as they are (R13). -/
theorem State.completeRecord_writePending {s : State} {op : Operation} {a b : List Record} {r : Record}
    (eq : s.pool = a ++ r :: b) (read : r.kind = .read) (alone : ∀ x ∈ a ++ b, ∀ y, x.state ≠ .onBus y)
    (slot : SlotId) (base : Word) :
    WritePendingInLine (s.completeRecord op) slot base ↔ WritePendingInLine s slot base := by
  have others (u : State) (l : List Record) (pool : u.pool = a ++ (l ++ b)) (reads : ∀ x ∈ l, x.kind = .read) :
      WritePendingInLine u slot base ↔
        ∃ x ∈ a ++ b, PendingWrite x ∧ x.slot = slot ∧ ∃ o ∈ targetBytes x.offset x.width, lineBase o = base := by
    unfold WritePendingInLine
    rw [pool]
    constructor
    · rintro ⟨x, hx, pending, line⟩
      refine ⟨x, ?_, pending, line⟩
      have : x ∉ l := fun hl => pending.1 (reads x hl)
      simpa [this] using hx
    · rintro ⟨x, hx, rest⟩
      refine ⟨x, ?_, rest⟩
      simp only [List.mem_append] at hx ⊢
      tauto
  have unchanged := others s [r] eq (by simp [read])
  refine (others _ _ (State.completeRecord_pool eq alone op) fun x hx => ?_).trans unchanged.symm
  have later := State.afterCompletion_later (Option.mem_toList.1 hx)
  rw [later.job, read]

end Sys2Proof.Machine

namespace Sys2Proof.Proofs

open Sys2Proof.Machine Sys2Proof.Statements

/-- Settles O22: the selection takes the record, and the covering entry delivers its data. -/
theorem selectionCompletesFromALine : Obligations.SelectionCompletesFromALine := by
  intro s g q a r b e data timer idle grant eq host queued before read prefetchable unique valid
  obtain ⟨before, here, found⟩ := State.find?_queued eq host queued before
  refine ⟨_, State.hitData_of_valid valid r.offset r.width, congrArg Host.Outcome.next ?_⟩
  rw [State.selection_taken idle grant found]
  have entry : State.completingEntry { s with arbiter := { holder := some g, quantum := q - 1 } } r.toJob = some e :=
    (if_pos ⟨by simp [Job.isWrite_eq_false.2 read], prefetchable⟩).trans (State.validEntry_of_valid unique valid)
  exact State.takeRecord_completed entry eq before here

/-- Settles O28, by the kind of the record and the fault of the operation. -/
theorem completionOfAnAccess : Obligations.CompletionOfAnAccess := by
  refine ⟨fun s notDue => congrArg Host.Outcome.next (State.completion_notDue notDue), ?_⟩
  intro s op a r b abandoned busy phase access last eq onBus alone completed
  have outcome {pool} (e : (s.afterCompletion op.readOutcome op.writeOutcome r).toList ++ b = pool) :
      completed (a ++ pool) := by
    refine congrArg Host.Outcome.next ?_
    rw [State.completion_due busy phase last, State.completeFill, access, State.completeRecord, eq,
      State.filterMap_afterCompletion alone, e]
  refine ⟨?_, ?_, ?_, ?_, ?_⟩
  · rintro read rfl
    exact outcome (by rw [State.afterCompletion_abandoned read onBus]; rfl)
  · rintro read rfl clean
    refine ⟨_, op.readData_toNat, outcome ?_⟩
    rw [State.afterCompletion_read read onBus, Operation.readOutcome_data (by simp [clean])]
    rfl
  · rintro fault i read rfl ended
    refine outcome ?_
    rw [State.afterCompletion_read read onBus, Operation.readOutcome_fault ended (by simp [access])]
    rfl
  · intro write clean
    refine outcome ?_
    rw [State.afterCompletion_write write onBus, Operation.writeOutcome, clean]
    rfl
  · intro fault i write ended
    refine outcome ?_
    rw [State.afterCompletion_write write onBus, Operation.writeOutcome, ended]
    rfl

/-- Settles O29: the record's outcome by the beat of the fault, the line's by what makes a fill end drop it. -/
theorem completionOfAFill : Obligations.CompletionOfAFill := by
  intro s op slot base e poisoned a r b abandoned busy phase fill last filling unique eq read onBus alone critical lost
  have due := State.completion_due busy phase last
  have completed : (s.completeRecord op).completeFill op =
      (s.completeRecord op).fillEnd slot base (op.filledBytes base) := by
    rw [State.completeFill, fill]
  have pool : s.completion.pool = a ++ ((s.afterCompletion op.readOutcome op.writeOutcome r).toList ++ b) := by
    rw [due, completed]
    exact (State.fillEnd_pool _ _ _ _).trans (State.completeRecord_pool eq alone op)
  have lines : s.completion.lines = ((s.completeRecord op).fillEnd slot base (op.filledBytes base)).lines := by
    rw [due, completed]
  have found : (s.completeRecord op).fillingEntry slot base = some e := State.fillingEntry_of_filling unique filling
  have query := State.lineQuery_iff.trans (State.completeRecord_writePending (op := op) eq read alone slot base)
  refine ⟨s.completion, rfl, ?_, ?_, ?_, ?_, ?_, ?_⟩
  · rw [due, completed, State.fillEnd_eq]
    rfl
  · rintro rfl
    rw [pool, State.afterCompletion_abandoned read onBus]
    rfl
  · rintro fault i rfl ended inCritical
    have : ¬ (op.fillLine.isSome = true ∧ op.criticalBeats < i) := by
      rw [op.criticalBeats_eq]
      exact fun c => absurd c.2 (not_lt.2 inCritical)
    rw [pool, State.afterCompletion_read read onBus, Operation.readOutcome_fault ended this]
    rfl
  · rintro rfl behind
    refine ⟨_, op.readData_toNat, ?_⟩
    have : ∀ fault i, op.endingFault = some (fault, i) → op.fillLine.isSome = true ∧ op.criticalBeats < i := by
      rw [op.criticalBeats_eq]
      exact fun fault i ended => ⟨by simp [fill], behind fault i ended⟩
    rw [pool, State.afterCompletion_read read onBus, Operation.readOutcome_data this]
    rfl
  · intro isLost
    rw [lines, State.fillEnd_lost found filling]
    · rfl
    · rw [query]
      refine isLost.imp_left fun faulted => ?_
      exact if_pos (Option.isSome_iff_ne_none.2 faulted)
  · intro notLost
    have clean : op.endingFault = none := by
      by_contra faulted
      exact notLost (.inl faulted)
    have bytes : op.filledBytes base = some (Vector.ofFn fun i : Fin 16 => op.byteAt (base + BitVec.ofNat 16 i.val)) :=
      if_neg (by simp [clean])
    rw [lines, bytes, State.fillEnd_kept found filling]
    · rfl
    · rw [query]
      exact fun c => notLost (.inr c)

end Sys2Proof.Proofs
end

section
/-!
PROOFS. The two events beside the resets that reach the pool from another block: a write of a slot's profile, and a
placement pass, which goes on from each placement as from its own start.
-/

namespace Sys2Proof.Machine

open Sys2Proof.Statements

/-! ## Writes of a profile -/

/-- The item of a slot group or register stands at its index (R128). -/
theorem itemAt_index (item : Item) : itemAt (BitVec.ofNat 16 (itemIndex item)) = some item := by
  cases item with
  | quota h => revert h; decide
  | mode slot => revert slot; decide
  | timingA slot => revert slot; decide
  | timingB slot => revert slot; decide
  | routeA n => revert n; decide
  | routeB n => revert n; decide
  | _ => decide

/-- The item that a write names is the one it is decided by (R132). -/
theorem itemAt_of_names {s : State} {h : HostId} {item : Item} (names : Names s h item) :
    itemAt (s.port h).cfgIndex = some item := by
  have index : (s.port h).cfgIndex = BitVec.ofNat 16 (itemIndex item) := by
    rw [← names, BitVec.ofNat_toNat, BitVec.setWidth_eq]
  rw [index, itemAt_index]

/-- A legal value of the item named is accepted (R132). -/
theorem State.cfgDataWrite_accepted {s : State} {h : HostId} {item : Item} {v : Word} (names : Names s h item)
    (legal : item.legal v = true) : s.cfgDataWrite h v = (s.acceptWrite h item v, .accept) := by
  simp only [State.cfgDataWrite, itemAt_of_names names, legal, if_true]

theorem LineEntry.afterProfile_eq (slot : SlotId) : LineEntry.afterProfile slot = reprofiled slot := by
  funext entry
  cases entry with
  | filling s b poisoned => by_cases c : s = slot <;> simp [LineEntry.afterProfile, reprofiled, c]
  | _ => rfl

/-- An accepted write of a profile word clears the slot's lines (R81). -/
theorem State.acceptWrite_lines {s : State} {h : HostId} {item : Item} {v : Word} {slot : SlotId}
    (profile : item = .mode slot ∨ item = .timingA slot ∨ item = .timingB slot) :
    (s.acceptWrite h item v).lines = linesChanged s.lines (reprofiled slot) := by
  rw [← LineEntry.afterProfile_eq, ← ReadAhead.change_eq]
  rcases profile with rfl | rfl | rfl
  · unfold State.acceptWrite State.inform
    dsimp only
    split <;> rfl
  · rfl
  · rfl

/-- A mode word with enable yes, and a timing word, leave the pool (R21, R142). -/
theorem State.acceptWrite_pool_kept {s : State} {h : HostId} {item : Item} {v : Word} {slot : SlotId}
    (profile : item = .mode slot ∨ item = .timingA slot ∨ item = .timingB slot)
    (kept : item ≠ .mode slot ∨ v.getLsbD 0 = true) : (s.acceptWrite h item v).pool = s.pool := by
  rcases profile with rfl | rfl | rfl
  · have on : v.getLsbD 0 = true := kept.resolve_left (· rfl)
    have enabled : ((s.cfg.store v (.mode slot)).enabled slot) = true := by
      simpa [ConfigSet.enabled, ConfigSet.store] using on
    unfold State.acceptWrite State.inform
    dsimp only
    rw [if_pos (by exact enabled)]
    rfl
  · rfl
  · rfl

/-- A mode word with enable no completes the slot's QUEUED records (R21). -/
theorem State.acceptWrite_pool_disabled {s : State} {h : HostId} {v : Word} {slot : SlotId}
    (off : v.getLsbD 0 = false) :
    (s.acceptWrite h (.mode slot) v).pool =
      s.pool.map (State.afterDisable { s with cfg := s.cfg.store v (.mode slot) } slot) := by
  have disabled : (s.cfg.store v (.mode slot)).enabled slot = false := by
    simpa [ConfigSet.enabled, ConfigSet.store] using off
  unfold State.acceptWrite State.inform
  dsimp only
  rw [if_neg (by exact Bool.eq_false_iff.1 disabled)]
  rfl

section Disable

variable {s : State} {slot : SlotId} {r : Record}

theorem State.afterDisable_other (other : ¬ (r.slot = slot ∧ r.state = .queued)) : s.afterDisable slot r = r :=
  if_neg (by simpa using other)

theorem State.afterDisable_read (queued : r.slot = slot ∧ r.state = .queued) (read : r.kind = .read) :
    s.afterDisable slot r = { r with state := .done (.fault .slotOff) s.cfg.collectLimit.toNat } := by
  simp [State.afterDisable, queued, Job.isWrite_eq_false.2 read, State.doneState]

theorem State.afterDisable_write (queued : r.slot = slot ∧ r.state = .queued) (write : r.kind ≠ .read) :
    s.afterDisable slot r =
      { r with state := .failed .slotOff (if s.cfg.wide slot then none else some false) } := by
  simp [State.afterDisable, queued, Job.isWrite_eq_true.2 write]

end Disable

/-! ## Searches for the first in an order -/

/-- A search through a list in order finds an element before which no element of the order answers. -/
theorem findSome?_of_first {α β : Type} {before : α → α → Prop} {l : List α} {f : α → Option β} {x : α} {y : β}
    (order : l.Pairwise before) (mem : x ∈ l) (here : f x = some y) (earlier : ∀ z, before z x → f z = none) :
    l.findSome? f = some y := by
  induction l with
  | nil => simp at mem
  | cons z l ih =>
    obtain ⟨head, tail⟩ := List.pairwise_cons.1 order
    rw [List.findSome?_cons]
    rcases List.mem_cons.1 mem with rfl | mem
    · simp [here]
    · simpa [earlier z (head x mem)] using ih tail mem

/-- The source numbers are searched from the lowest (R117). -/
theorem findSome?_allEight {β : Type} {f : Fin 8 → Option β} {n : Fin 8} {y : β} (here : f n = some y)
    (lower : ∀ m, m < n → f m = none) : allEight.findSome? f = some y :=
  findSome?_of_first (before := (· < ·)) (by decide) (mem_allEight n) here lower

/-! ## The classes of waiting deliveries -/

section Classes

variable {s : State} {h : HostId}

theorem Record.isFailedOf_iff {r : Record} :
    r.isFailedOf h = true ↔ r.host = h ∧ ∃ fault part, r.state = .failed fault part := by
  simp [Record.isFailedOf]

theorem Record.isOrphanedOf_iff {r : Record} : r.isOrphanedOf h = true ↔ r.host = h ∧ r.state = .orphaned := by
  simp [Record.isOrphanedOf]

theorem Record.failedFault_of {r : Record} {fault : AccessFault} {part : Option Bool}
    (st : r.state = .failed fault part) : r.failedFault = fault := by
  simp only [Record.failedFault, st]

/-- An absent partial field counts as no (R18). -/
theorem Record.failedPartial_of {r : Record} {fault : AccessFault} {part : Option Bool}
    (st : r.state = .failed fault part) : r.failedPartial = part.getD false := by
  cases part <;> simp only [Record.failedPartial, st, Option.getD_none, Option.getD_some]

/-- The oldest FAILED record is delivered first (R117). -/
theorem State.nextDelivery_failed {r : Record} (found : s.pool.find? (Record.isFailedOf h) = some r) :
    s.nextDelivery h = some (.failed r) := by
  simp [State.nextDelivery, found]

/-- Without a FAILED record the oldest ORPHANED one is delivered (R117). -/
theorem State.nextDelivery_orphaned {r : Record} (noFailed : s.pool.find? (Record.isFailedOf h) = none)
    (found : s.pool.find? (Record.isOrphanedOf h) = some r) : s.nextDelivery h = some (.orphaned r) := by
  simp [State.nextDelivery, noFailed, found]

/-- Without a record the attention unit's entries and CONFIG_CHANGED follow (R117). -/
theorem State.nextDelivery_noRecord
    (noRecord : ∀ r ∈ s.pool, ¬ (r.host = h ∧ ∃ fault part, r.state = .failed fault part) ∧
      ¬ (r.host = h ∧ r.state = .orphaned)) :
    s.nextDelivery h =
      (s.forcedDelivery h).or ((s.owedDelivery h).or ((s.port h).changed.map Delivery.changed)) := by
  have noFailed : s.pool.find? (Record.isFailedOf h) = none :=
    List.find?_eq_none.2 fun r hr => mt Record.isFailedOf_iff.1 (noRecord r hr).1
  have noOrphaned : s.pool.find? (Record.isOrphanedOf h) = none :=
    List.find?_eq_none.2 fun r hr => mt Record.isOrphanedOf_iff.1 (noRecord r hr).2
  simp [State.nextDelivery, noFailed, noOrphaned]

/-- The forced-release entry of the lowest source is delivered first of its class (R117). -/
theorem State.forcedDelivery_first {n : SourceId} {cause : Cause} (here : (s.source n).forced[h] = some cause)
    (lower : ∀ m, m < n → (s.source m).forced[h] = none) : s.forcedDelivery h = some (.forced n cause) :=
  findSome?_allEight (by rw [here]; rfl) fun m lt => by rw [lower m lt]; rfl

theorem State.forcedDelivery_none (noForced : ∀ n, (s.source n).forced[h] = none) : s.forcedDelivery h = none :=
  List.findSome?_eq_none_iff.2 fun n _ => by rw [noForced n]; rfl

/-- The owed entry of the highest priority and then lowest source is delivered first of its class (R117). -/
theorem State.owedDelivery_first {n : SourceId} {entry : OwedEntry} (here : (s.source n).owed[h] = some entry)
    (first : ∀ m other, (s.source m).owed[h] = some other →
      other.priority < entry.priority ∨ (other.priority = entry.priority ∧ n ≤ m)) :
    s.owedDelivery h = some (.owed n entry) := by
  have skipped (m : SourceId) (p : BitVec 2) (earlier : entry.priority < p ∨ (p = entry.priority ∧ m < n)) :
      (s.source m).owedAt h p = none := by
    cases owed : (s.source m).owed[h] with
    | none => simp only [Source.owedAt, owed, Option.filter_none]
    | some other =>
      have differs : other.priority ≠ p := by
        rintro rfl
        rcases first m other owed with lower | ⟨same, le⟩ <;> rcases earlier with higher | ⟨same', lt⟩
        · exact absurd higher (BitVec.not_lt.2 (BitVec.le_of_lt lower))
        · exact absurd lower (same' ▸ BitVec.lt_irrefl _)
        · exact absurd higher (same ▸ BitVec.lt_irrefl _)
        · exact absurd lt (not_lt.2 le)
      simp [Source.owedAt, owed, differs]
  refine findSome?_of_first (before := (· > ·)) (x := entry.priority) (by decide) ?_
    (findSome?_allEight (n := n) ?_ ?_) ?_
  · generalize entry.priority = p
    revert p
    decide
  · simp [Source.owedAt, here]
  · intro m lt
    rw [skipped m _ (.inr ⟨rfl, lt⟩)]
    rfl
  · intro p higher
    refine List.findSome?_eq_none_iff.2 fun m _ => ?_
    rw [skipped m p (.inl higher)]
    rfl

theorem State.owedDelivery_none (noOwed : ∀ n, (s.source n).owed[h] = none) : s.owedDelivery h = none := by
  refine List.findSome?_eq_none_iff.2 fun p _ => List.findSome?_eq_none_iff.2 fun n _ => ?_
  simp [Source.owedAt, noOwed n]

end Classes

/-! ## One placement of a pass -/

section Pass

variable {s : State} {h : HostId}

@[simp] theorem State.endWaiting_cfg (s : State) (h : HostId) (d : Delivery) : (s.endWaiting h d).cfg = s.cfg := by
  cases d <;> rfl

/-- The end of a delivery's waiting leaves the port UP and its queue as it was (R117). -/
theorem State.endWaiting_port (s : State) (h : HostId) (d : Delivery) :
    ((s.endWaiting h d).port h).up = (s.port h).up ∧ ((s.endWaiting h d).port h).queue = (s.port h).queue := by
  cases d with
  | changed writer => simp [State.endWaiting]
  | _ => exact ⟨rfl, rfl⟩

/-- A placement at an UP port, as the statements write it (R117, R118). -/
theorem State.placeDelivery_eq (up : (s.port h).up = true) (d : Delivery) :
    s.placeDelivery h d = placed (s.endWaiting h d) h d.priority (d.body s.cfg.generation) := by
  refine State.modPort_congr ?_
  have up : ((s.endWaiting h d).port h).up = true := (s.endWaiting_port h d).1.trans up
  simp [Port.placeNotice, Port.evalLine, Port.lineLevel, up]

/-- A placement leaves the port UP with one notice more. -/
theorem State.placeDelivery_port (s : State) (h : HostId) (d : Delivery) :
    ((s.placeDelivery h d).port h).up = (s.port h).up ∧
      ((s.placeDelivery h d).port h).queue.length = (s.port h).queue.length + 1 := by
  obtain ⟨up, queue⟩ := s.endWaiting_port h d
  simp [State.placeDelivery, Port.placeNotice, Port.evalLine, up, queue]

/-- With room in the queue a pass goes on from the next placement (R116). -/
theorem State.placementPass_next {d : Delivery} (up : (s.port h).up = true) (room : (s.port h).queue.length < 8)
    (next : s.nextDelivery h = some d) :
    s.placementPass h =
      (placed (s.endWaiting h d) h d.priority (d.body s.cfg.generation)).placementPass h := by
  rw [← State.placeDelivery_eq up]
  obtain ⟨up', queue⟩ := s.placeDelivery_port h d
  have count : Config.queuePlaces - (s.port h).queue.length =
      Config.queuePlaces - ((s.placeDelivery h d).port h).queue.length + 1 := by
    show 8 - _ = 8 - _ + 1
    omega
  rw [State.placementPass, State.placementPass, if_pos up, if_pos (up'.trans up), count, State.placeUpTo, next]

/-- A pass changes nothing where no delivery waits (R116). -/
theorem State.placementPass_drained (drained : s.nextDelivery h = none) : s.placementPass h = s := by
  unfold State.placementPass
  split
  · cases Config.queuePlaces - (s.port h).queue.length with
    | zero => rfl
    | succ room => rw [State.placeUpTo, drained]
  · rfl

/-- A pass changes nothing where the queue is full (R116). -/
theorem State.placementPass_full (full : 8 ≤ (s.port h).queue.length) : s.placementPass h = s := by
  have noRoom : Config.queuePlaces - (s.port h).queue.length = 0 := Nat.sub_eq_zero_of_le full
  rw [State.placementPass, noRoom]
  exact ite_self s

end Pass

end Sys2Proof.Machine

namespace Sys2Proof.Proofs

open Sys2Proof.Machine Sys2Proof.Statements

/-- Settles O35: the slot's lines change entry by entry, its QUEUED records record by record. -/
theorem profileWriteClearsAndDisables : Obligations.ProfileWriteClearsAndDisables := by
  intro h v s slot item t up names legal profile run
  have accepted : exec (.cfgDataWrite h v) s = .next (answering (s.acceptWrite h item v) h .accept) :=
    congrArg Host.Outcome.next (State.take_answering up (State.cfgDataWrite_accepted names legal))
  obtain rfl := Host.Outcome.next.inj (run.symm.trans accepted)
  refine ⟨State.acceptWrite_lines profile, ?_, State.acceptWrite_pool_kept profile⟩
  rintro rfl off
  refine (State.acceptWrite_pool_disabled off).trans (List.map_congr_left fun r _ => ?_)
  split
  · next queued =>
    cases kind : r.kind with
    | read => exact State.afterDisable_read queued kind
    | write data =>
      rw [State.afterDisable_write queued (by simp [kind])]
      simp [ConfigSet.wide, ConfigSet.store]
  · next other => exact State.afterDisable_other other

/-- Settles O46, class by class of the deliveries that wait. -/
theorem passPlacesByClass : Obligations.PassPlacesByClass := by
  intro s h up
  refine ⟨fun full => congrArg Host.Outcome.next (State.placementPass_full full), ?_⟩
  intro room failed orphaned _ _ _
  have goesOn {d} (next : s.nextDelivery h = some d) :
      exec (.placementPass h) s =
        exec (.placementPass h) (placed (s.endWaiting h d) h d.priority (d.body s.cfg.generation)) :=
    congrArg Host.Outcome.next (State.placementPass_next up room next)
  refine ⟨?_, ?_, ?_, ?_, ?_, ?_⟩
  · intro a r b fault part eq host st before
    have here : r.isFailedOf h = true := Record.isFailedOf_iff.2 ⟨host, fault, part, st⟩
    have before : ∀ x ∈ a, x.isFailedOf h = false := fun x hx =>
      Bool.eq_false_iff.2 (mt Record.isFailedOf_iff.1 (before x hx))
    have next := State.nextDelivery_failed (eq ▸ find?_append_first before here)
    rw [goesOn next, State.endWaiting, eq, eraseP_append_first before here, Delivery.body, Record.failedFault_of st,
      Record.failedPartial_of st]
    rfl
  · intro a r b eq noFailed here before
    have noFailed : s.pool.find? (Record.isFailedOf h) = none :=
      List.find?_eq_none.2 fun x hx => mt Record.isFailedOf_iff.1 (noFailed x hx)
    have here : r.isOrphanedOf h = true := Record.isOrphanedOf_iff.2 here
    have before : ∀ x ∈ a, x.isOrphanedOf h = false := fun x hx =>
      Bool.eq_false_iff.2 (mt Record.isOrphanedOf_iff.1 (before x hx))
    have next := State.nextDelivery_orphaned noFailed (eq ▸ find?_append_first before here)
    rw [goesOn next, State.endWaiting, eq, eraseP_append_first before here]
    rfl
  · intro n cause noRecord here lower
    have next : s.nextDelivery h = some (.forced n cause) := by
      rw [State.nextDelivery_noRecord noRecord, State.forcedDelivery_first here lower, Option.some_or]
    simpa only [State.endWaiting, Delivery.priority, Delivery.body] using goesOn next
  · intro n entry noRecord noForced here first
    have next : s.nextDelivery h = some (.owed n entry) := by
      rw [State.nextDelivery_noRecord noRecord, State.forcedDelivery_none noForced, State.owedDelivery_first here first,
        Option.none_or, Option.some_or]
    refine (goesOn next).trans ?_
    rw [Delivery.body]
    cases entry.kind <;> rfl
  · intro writer noRecord noForced noOwed changed
    have next : s.nextDelivery h = some (.changed writer) := by
      rw [State.nextDelivery_noRecord noRecord, State.forcedDelivery_none noForced,
        State.owedDelivery_none noOwed, changed, Option.none_or, Option.none_or, Option.map_some]
    simpa only [State.endWaiting, Delivery.priority, Delivery.body] using goesOn next
  · intro noRecord noForced noOwed unchanged
    refine congrArg Host.Outcome.next (State.placementPass_drained ?_)
    rw [State.nextDelivery_noRecord noRecord, State.forcedDelivery_none noForced,
      State.owedDelivery_none noOwed, unchanged, Option.none_or, Option.none_or, Option.map_none]

end Sys2Proof.Proofs
end

section
/-!
PROOFS. The two kinds of reset. A port's reset and its return to UP act on each record and each source alone; at the end
of gateway reset every source is IDLE, so that each return to UP changes its port and nothing else.
-/

namespace Sys2Proof.Machine

open Sys2Proof.Statements

/-! ## Sources in the statements' terms -/

theorem Source.owe_eq (src : Source) (route : Route) (up : HostId → Bool) (kind : AttentionKind) :
    src.owe route up kind = owing src route up kind := by
  simp only [Source.owe, owing, Route.subscribes, Bool.and_eq_true]

/-- A release, as the statements write it (R97). -/
theorem Source.release_eq (src : Source) (route : Route) (up : HostId → Bool) :
    src.release route up = released src route up := by
  simp only [Source.release, released, Source.raise, Source.owe_eq, Route.hasSubscriber, bne_iff_ne]

theorem Source.catchUpKind_eq (src : Source) : src.catchUpKind = catchUp src := by
  unfold Source.catchUpKind catchUp
  rcases src.state with _ | ⟨_ | round, timer⟩ | ⟨holder, timer⟩ | _ <;> rfl

/-! ## The assertion of a port's reset line -/

/-- While `h` is being reset, the ports UP are the other ones that are (R107). -/
theorem State.upSet_down {s : State} {h : HostId} {f : Port → Port} (down : (f (s.port h)).up = false) :
    (s.modPort h f).upSet = fun g => decide (g ≠ h) && (s.port g).up := by
  funext g
  by_cases same : g = h
  · subst same
    simp [State.upSet, down]
  · simp [State.upSet, State.port_modPort_ne s f same, same]

/-- A source of a state whose sources are given source by source. -/
theorem State.source_of_ofFn {s : State} {f : SourceId → Source} (eq : s.sources = Vector.ofFn f) (n : SourceId) :
    s.source n = f n := by
  simp [State.source, eq]

/-- A port reset, seen at one source: its part is taken with the port DOWN (R107). -/
theorem State.portReset_source (s : State) (h : HostId) (n : SourceId) :
    (s.portReset h).source n = (s.source n).portReset (s.cfg.route n) (s.modPort h Port.reseted).upSet h :=
  State.source_mapSources (s.modPort h Port.reseted) n fun n src =>
    src.portReset (s.cfg.route n) (s.modPort h Port.reseted).upSet h

theorem State.portReset_port (s : State) (h g : HostId) :
    (s.portReset h).port g = (s.modPort h Port.reseted).port g := rfl

/-- A return to UP, seen at one source and at one port (R108, R165). -/
theorem State.returnToUp_source (s : State) (h : HostId) (n : SourceId) :
    (s.returnToUp h).source n = (s.source n).portReturn (s.cfg.route n) h :=
  State.source_mapSources (s.modPort h fun p => { p with up := true }) n fun n src => src.portReturn (s.cfg.route n) h

theorem State.returnToUp_port (s : State) (h g : HostId) :
    (s.returnToUp h).port g = (s.modPort h fun p => { p with up := true }.evalLine).port g := by
  by_cases same : g = h
  · subst same
    simp [State.returnToUp, State.evalLine]
  · simp [State.returnToUp, State.evalLine, State.port_modPort_ne, same]

/-- A level that a reset line already has is no edge (assumption 6). -/
theorem State.assertPrst_asserted {s : State} {h : HostId} (prst : (s.port h).prst = true) : s.assertPrst h = s :=
  if_pos prst

theorem State.deassertPrst_deasserted {s : State} {h : HostId} (prst : (s.port h).prst = false) :
    s.deassertPrst h = s := if_neg (Bool.eq_false_iff.1 prst)

/-- While GRST is asserted an edge only changes the level (R161). -/
theorem State.assertPrst_grst {s : State} {h : HostId} (grst : s.grst = true) :
    s.assertPrst h = s.modPort h fun p => { p with prst := true } := by
  unfold State.assertPrst
  split
  · next prst => exact (State.modPort_eq_self (by rw [← prst])).symm
  · exact if_pos grst

theorem State.deassertPrst_grst {s : State} {h : HostId} (grst : s.grst = true) :
    s.deassertPrst h = s.modPort h fun p => { p with prst := false } := by
  unfold State.deassertPrst
  split
  · exact if_pos grst
  · next prst =>
    have prst : (s.port h).prst = false := Bool.eq_false_iff.2 prst
    exact (State.modPort_eq_self (by rw [← prst])).symm

/-- Any other edge is a port reset (R163) or a return to UP (R165). -/
theorem State.assertPrst_edge {s : State} {h : HostId} (grst : s.grst = false) (prst : (s.port h).prst = false) :
    s.assertPrst h = (s.modPort h fun p => { p with prst := true }).portReset h := by
  simp only [State.assertPrst, prst, State.modPort_grst, grst, Bool.false_eq_true, if_false]

theorem State.deassertPrst_edge {s : State} {h : HostId} (grst : s.grst = false) (prst : (s.port h).prst = true) :
    s.deassertPrst h = (s.modPort h fun p => { p with prst := false }).returnToUp h := by
  simp only [State.deassertPrst, prst, State.modPort_grst, grst, Bool.false_eq_true, if_false, if_true]

section Assertion

variable {h : HostId} {r : Record}

/-- What a port reset leaves of a read of its host by the read's state (R22). -/
theorem Record.afterPortReset_read (own : r.host = h ∧ r.kind = .read) :
    (∀ abandoned, r.state = .onBus abandoned → r.afterPortReset h = some { r with state := .onBus true }) ∧
    (∀ fault part, r.state = .failed fault part → r.afterPortReset h = some r) ∧
    (r.isOnBus = false → r.isFailed = false → r.afterPortReset h = none) := by
  have write := Job.isWrite_eq_false.2 own.2
  refine ⟨fun abandoned st => ?_, fun fault part st => ?_, fun off notFailed => ?_⟩
  · simp [Record.afterPortReset, Record.isOrphanedOf, Record.isOrphaned, Record.afterCancel, st, own.1, write]
  · simp [Record.afterPortReset, Record.isOrphanedOf, Record.isOrphaned, Record.afterCancel, st, own.1, write]
  · cases st : r.state <;>
      simp_all [Record.afterPortReset, Record.isOrphanedOf, Record.isOrphaned, Record.afterCancel, Record.isOnBus,
        Record.isFailed]

/-- A record that is no read of the host stays, unless it is ORPHANED (R22). -/
theorem Record.afterPortReset_other (other : ¬ (r.host = h ∧ r.kind = .read)) :
    r.afterPortReset h = if r.host = h ∧ r.state = .orphaned then none else some r := by
  have kept : r.afterCancel h = some r := if_neg (by simpa [Job.isWrite_eq_false] using other)
  simp only [Record.afterPortReset, Record.isOrphanedOf_iff, kept]

end Assertion

/-- A claim of the host is released with the host DOWN, and its entries are dropped (R107). -/
theorem Source.portReset_held {src : Source} {h : HostId} {timer : Option Nat} (held : src.state = .claimed h timer)
    (route : Route) (up : HostId → Bool) :
    src.portReset route up h =
      { released src route up with
        owed := (released src route up).owed.set h none, forced := (released src route up).forced.set h none } := by
  simp only [Source.portReset, Source.isHeldBy, held, beq_self_eq_true, if_true, Source.release_eq]

theorem Source.portReset_notHeld {src : Source} {h : HostId} (notHeld : ∀ timer, src.state ≠ .claimed h timer)
    (route : Route) (up : HostId → Bool) :
    src.portReset route up h = { src with owed := src.owed.set h none, forced := src.forced.set h none } := by
  have free : src.isHeldBy h = false := by
    unfold Source.isHeldBy
    cases st : src.state with
    | claimed holder timer =>
      simp only [beq_eq_false_iff_ne]
      rintro rfl
      exact notHeld timer st
    | _ => rfl
  simp only [Source.portReset, free, Bool.false_eq_true, if_false]

/-- A RAISED or STUCK source owes a returning subscriber the entry for its state (R108). -/
theorem Source.portReturn_some {src : Source} {kind : AttentionKind} (owed : catchUp src = some kind) (route : Route)
    (h : HostId) :
    src.portReturn route h =
      if route.subscribes h then
        { src with owed := src.owed.set h (some { kind := kind, priority := route.priority }) }
      else src := by
  simp only [Source.portReturn, Source.catchUpKind_eq, owed]

theorem Source.portReturn_none {src : Source} (nothing : catchUp src = none) (route : Route) (h : HostId) :
    src.portReturn route h = src := by
  simp only [Source.portReturn, Source.catchUpKind_eq, nothing]

/-! ## The end of gateway reset -/

/-- Every port of a list, one after another, is every such port at once. -/
theorem State.foldl_modPort (f : Port → Port) {hosts : List HostId} (nodup : hosts.Nodup) (s : State) :
    hosts.foldl (fun u h => u.modPort h f) s = s.mapPorts fun g p => if g ∈ hosts then f p else p := by
  induction hosts generalizing s with
  | nil =>
    refine State.ext_blocks rfl rfl rfl rfl rfl (fun _ => rfl) (fun g => ?_) rfl rfl rfl rfl rfl rfl
    simp
  | cons h hosts ih =>
    obtain ⟨fresh, nodup⟩ := List.nodup_cons.1 nodup
    rw [List.foldl_cons, ih nodup]
    refine State.ext_blocks rfl rfl rfl rfl rfl (fun _ => rfl) (fun g => ?_) rfl rfl rfl rfl rfl rfl
    rw [State.port_mapPorts, State.port_mapPorts]
    by_cases same : g = h
    · subst same
      simp [fresh]
    · simp [State.port_modPort_ne s f same, same]

/-- A port returns to UP where its reset line is inactive (R161, R165). -/
def Port.returned (p : Port) : Port := if p.prst then p else { p with up := true }.evalLine

/-- With every source IDLE a return to UP changes its port alone (R108). -/
theorem State.returnToUp_idle {s : State} (idle : ∀ n, (s.source n).state = .idle) (h : HostId) :
    s.returnToUp h = s.modPort h fun p => { p with up := true }.evalLine := by
  refine State.ext_blocks rfl rfl rfl rfl rfl (fun n => ?_) (s.returnToUp_port h) rfl rfl rfl rfl rfl rfl
  have nothing : catchUp (s.source n) = none := by rw [catchUp, idle n]
  exact (s.returnToUp_source h n).trans (Source.portReturn_none nothing _ h)

/-- With every source IDLE the returns of a list of ports change each port alone (R161, R165). -/
theorem State.foldl_returnToUp {s : State} (idle : ∀ n, (s.source n).state = .idle) (hosts : List HostId) :
    hosts.foldl (fun u h => if (u.port h).prst then u else u.returnToUp h) s =
      hosts.foldl (fun u h => u.modPort h Port.returned) s := by
  induction hosts generalizing s with
  | nil => rfl
  | cons h hosts ih =>
    have one : (if (s.port h).prst then s else s.returnToUp h) = s.modPort h Port.returned := by
      split
      · next prst => exact (State.modPort_eq_self (f := Port.returned) (if_pos prst)).symm
      · next prst => exact (State.returnToUp_idle idle h).trans (State.modPort_congr (if_neg prst).symm)
    rw [List.foldl_cons, List.foldl_cons, one]
    exact ih idle

/-- The end of gateway reset with every source IDLE: the levels of the lines afresh, and each port as it returns (R66,
R109, R161). -/
theorem State.gatewayResetEnd_idle {s : State} (grst : s.grst = true) (idle : ∀ n, (s.source n).state = .idle) :
    s.gatewayResetEnd =
      ({ s with grst := false, bus := { s.bus with pbrst := false } }.mapSources fun n src =>
        { src with line := s.patn[n] }).mapPorts fun _ p => p.returned := by
  unfold State.gatewayResetEnd
  rw [if_pos grst]
  dsimp only
  rw [State.foldl_returnToUp (fun n => by rw [State.source_mapSources]; exact idle n),
    State.foldl_modPort _ (by decide)]
  simp only [mem_allHosts, if_true]

end Sys2Proof.Machine

namespace Sys2Proof.Proofs

open Sys2Proof.Machine Sys2Proof.Statements

/-- Settles O50: the levels and GRST decide whether there is an edge; then record by record and source by source. -/
theorem portResetAndReturn : Obligations.PortResetAndReturn := by
  intro h s
  refine ⟨fun prst => congrArg Host.Outcome.next (State.assertPrst_asserted prst),
    fun prst => congrArg Host.Outcome.next (State.deassertPrst_deasserted prst),
    fun grst => ⟨congrArg Host.Outcome.next (State.assertPrst_grst grst),
      congrArg Host.Outcome.next (State.deassertPrst_grst grst)⟩,
    fun grst prst => congrArg Host.Outcome.next ((State.assertPrst_edge grst prst).trans ?_),
    fun grst prst => congrArg Host.Outcome.next ((State.deassertPrst_edge grst prst).trans ?_)⟩
  · refine State.ext_blocks ?_ rfl rfl rfl rfl (fun n => ?_) (fun g => ?_) rfl rfl rfl rfl rfl rfl
    · refine List.filterMap_congr fun r _ => ?_
      split
      · next own =>
        obtain ⟨onBus, failed, freed⟩ := Record.afterPortReset_read own
        split
        · next abandoned st => exact onBus abandoned st
        · next fault part st => exact (failed fault part st).trans (by rw [← st])
        · exact freed (by simp [Record.isOnBus]) (by simp [Record.isFailed])
      · next other => exact Record.afterPortReset_other other
    · refine Eq.trans ?_ (State.source_of_ofFn rfl n).symm
      have down := State.portReset_source (s.modPort h fun p => { p with prst := true }) h n
      rw [State.modPort_modPort, State.upSet_down rfl] at down
      refine down.trans ?_
      dsimp only
      split
      · next holder timer st =>
        split
        · next own => exact Source.portReset_held (own ▸ st) _ _
        · next other => exact Source.portReset_notHeld (fun t st' => other (by cases st.symm.trans st'; rfl)) _ _
      · next notClaimed => exact Source.portReset_notHeld (fun t st' => notClaimed h t st') _ _
    · refine (State.portReset_port _ h g).trans ?_
      rw [State.modPort_modPort]
      rfl
  · refine State.ext_blocks rfl rfl rfl rfl rfl (fun n => ?_) (fun g => ?_) rfl rfl rfl rfl rfl rfl
    · refine (State.returnToUp_source _ h n).trans (Eq.trans ?_ (State.source_of_ofFn rfl n).symm)
      dsimp only
      split
      · next kind owed => exact Source.portReturn_some owed _ h
      · next nothing => exact Source.portReturn_none nothing _ h
    · refine (State.returnToUp_port _ h g).trans ?_
      rw [State.modPort_modPort]
      rfl

/-- Settles O51: the assertion gives the reset state outright; at the end every source is IDLE. -/
theorem gatewayResetCycle : Obligations.GatewayResetCycle := by
  intro s
  refine ⟨s.gatewayReset, rfl, rfl, congrArg Host.Outcome.next ?_⟩
  have idle : ∀ n, (s.gatewayReset.source n).state = .idle := by
    simp [State.gatewayReset, State.source, Source.reset]
  rw [State.gatewayResetEnd_idle rfl idle]
  refine State.ext_blocks rfl rfl rfl rfl rfl (fun n => ?_) (fun g => ?_) rfl rfl rfl rfl rfl rfl
  · rw [State.source_mapPorts, State.source_mapSources]
    simp [State.gatewayReset, State.source, Source.reset]
  · rw [State.port_mapPorts, State.port_mapSources]
    cases prst : (s.port g).prst <;>
      simp_all [State.gatewayReset, State.port, Port.returned, Port.gatewayReset, Port.evalLine, Port.lineLevel,
        Port.reset]

end Sys2Proof.Proofs
end

section
/-!
PROOFS. What one step can do to the parts that govern the others: the configuration set, the timebase and the arbiter.
Few events reach them. `Governor.Event` lists those; every other operation is shown once to leave the three as they are,
so every step is one such event, and an invariant of the three is proved once per kind of event.
-/

namespace Sys2Proof.Machine

open Sys2Proof.Statements

/-! ## The set, the timebase and the arbiter -/

/-- The three parts that govern the others. -/
structure Governor where
  cfg : ConfigSet
  timebase : Timebase
  arbiter : Arbiter

/-- The governing parts of a state. -/
def State.governor (s : State) : Governor where
  cfg := s.cfg
  timebase := s.timebase
  arbiter := s.arbiter

/-- What one event can do to the governing parts. -/
inductive Governor.Event : Governor → Governor → Prop
  /-- They stay. -/
  | same (g : Governor) : Event g g
  /-- A write of a legal value is accepted (R135, R136). -/
  | write (g : Governor) (item : Item) (v : Word) (legal : item.legal v = true) :
      Event g { g with cfg := { g.cfg.store v item with generation := g.cfg.generation + 1#16 } }
  /-- A bus clock that is no tick is counted (R149). -/
  | count (g : Governor) (room : g.timebase.count + 1 < g.timebase.divisor.toNat) :
      Event g { g with timebase := { g.timebase with count := g.timebase.count + 1 } }
  /-- A tick restarts the count with TICK_DIV as its divisor (R149). -/
  | tick (g : Governor) : Event g { g with timebase := { count := 0, divisor := g.cfg.tickDiv } }
  /-- A selection goes on with the quantum remaining, or with a fresh one, and lowers it (R34, R35). -/
  | select (g : Governor) (h : HostId) (q : Nat) (loaded : q = g.arbiter.quantum ∨ q = g.cfg.quantum) :
      Event g { g with arbiter := { holder := some h, quantum := q - 1 } }
  /-- Gateway reset gives each its reset state (R40, R147, R157). -/
  | reset (g : Governor) :
      Event g { cfg := ConfigSet.reset, timebase := Timebase.reset, arbiter := Arbiter.reset }

theorem Governor.Event.of_eq {g g' : Governor} (eq : g' = g) : Event g g' := eq ▸ .same g

/-! ## Operations that leave them -/

section Frame

variable (s : State)

@[simp] theorem State.slotWrite_governor (h : HostId) (slot : SlotId) (offset : Word) (width : Width) (data : Word) :
    (s.slotWrite h slot offset width data).1.governor = s.governor := by
  rcases s.slotWrite_cases h slot offset width data with ⟨_, e⟩ | ⟨_, -, e⟩ | ⟨-, -, e⟩ <;>
    exact congrArg (fun decided => decided.1.governor) e

@[simp] theorem State.slotRead_governor (h : HostId) (slot : SlotId) (offset : Word) (width : Width) :
    (s.slotRead h slot offset width).1.governor = s.governor := by
  rcases s.slotRead_cases h slot offset width with ⟨_, _, _, -, -, e⟩ | ⟨_, -, -, e⟩ | ⟨-, e⟩
  · rw [e]
    rfl
  · rw [e]
  · rw [e]
    rcases s.slotReadUnmatched_cases h slot offset width with ⟨_, e⟩ | ⟨_, e⟩ | ⟨_, -, e⟩ | ⟨-, -, e⟩ <;>
      exact congrArg (fun decided => decided.1.governor) e

@[simp] theorem State.claim_governor (h : HostId) (n : SourceId) : (s.claim h n).1.governor = s.governor := by
  unfold State.claim
  dsimp only
  split <;> rfl

@[simp] theorem State.release_governor (h : HostId) (value : Word) : (s.release h value).1.governor = s.governor := by
  unfold State.release
  split
  · rfl
  · split <;> rfl

@[simp] theorem State.rearm_governor (h : HostId) (value : Word) : (s.rearm h value).1.governor = s.governor := by
  unfold State.rearm
  split
  · rfl
  · split <;> rfl

@[simp] theorem State.pop_governor (h : HostId) : (s.pop h).1.governor = s.governor := by
  unfold State.pop
  split <;> rfl

@[simp] theorem State.writeThreshold_governor (h : HostId) (value : Word) :
    (s.writeThreshold h value).1.governor = s.governor := by
  unfold State.writeThreshold
  split <;> rfl

@[simp] theorem State.readReg_governor (h : HostId) (reg : ControlReg) :
    (s.readReg h reg).1.governor = s.governor := by
  cases reg with
  | claim n => exact s.claim_governor h n
  | _ => rfl

@[simp] theorem State.placeDelivery_governor (h : HostId) (d : Delivery) :
    (s.placeDelivery h d).governor = s.governor := by
  cases d <;> rfl

@[simp] theorem State.placeUpTo_governor (h : HostId) (room : Nat) : (s.placeUpTo h room).governor = s.governor := by
  induction room generalizing s with
  | zero => rfl
  | succ room ih =>
    unfold State.placeUpTo
    split
    · rfl
    · exact (ih _).trans (s.placeDelivery_governor h _)

@[simp] theorem State.placementPass_governor (h : HostId) : (s.placementPass h).governor = s.governor := by
  unfold State.placementPass
  split
  · exact s.placeUpTo_governor h _
  · rfl

@[simp] theorem State.attentionLine_governor (n : SourceId) (level : Bool) :
    (s.attentionLine n level).governor = s.governor := by
  unfold State.attentionLine
  split
  · rfl
  · dsimp only
    split
    · rfl
    · split <;> rfl

@[simp] theorem State.lifetimeExpiry_governor (e : EntryId) : (s.lifetimeExpiry e).governor = s.governor := by
  unfold State.lifetimeExpiry
  split <;> rfl

@[simp] theorem State.assertPrst_governor (h : HostId) : (s.assertPrst h).governor = s.governor := by
  unfold State.assertPrst
  split
  · rfl
  · dsimp only
    split <;> rfl

@[simp] theorem State.deassertPrst_governor (h : HostId) : (s.deassertPrst h).governor = s.governor := by
  unfold State.deassertPrst
  split
  · dsimp only
    split <;> rfl
  · rfl

@[simp] theorem State.gatewayResetEnd_governor : s.gatewayResetEnd.governor = s.governor := by
  have returns (hosts : List HostId) (u : State) :
      (hosts.foldl (fun u h => if (u.port h).prst then u else u.returnToUp h) u).governor = u.governor := by
    induction hosts generalizing u with
    | nil => rfl
    | cons h hosts ih =>
      refine (ih _).trans ?_
      dsimp only
      split <;> rfl
  unfold State.gatewayResetEnd
  split
  · exact returns allHosts _
  · rfl

/-! ## The sequencer's operations leave them -/

@[simp] theorem State.setupEnd_governor (pdcl : Bool) : (s.setupEnd pdcl).governor = s.governor := by
  unfold State.setupEnd
  split
  · split
    · split <;> rfl
    · rfl
  · rfl

@[simp] theorem State.takeTransfer_governor (op : Operation) (lanes : Word) (ppar : Bool) :
    (s.takeTransfer op lanes ppar).governor = s.governor := by
  rcases s.takeTransfer_cases op lanes ppar with ⟨-, e⟩ | ⟨-, -, e⟩ | ⟨-, -, e⟩ <;> rw [e] <;> rfl

@[simp] theorem State.strobePeriodEnd_governor (prdy : Bool) (lanes : Word) (ppar : Bool) :
    (s.strobePeriodEnd prdy lanes ppar).governor = s.governor := by
  unfold State.strobePeriodEnd
  split
  · split
    · split
      · exact s.takeTransfer_governor _ lanes ppar
      · rfl
    · rfl
  · rfl

@[simp] theorem State.ready_governor (lanes : Word) (ppar : Bool) : (s.ready lanes ppar).governor = s.governor := by
  unfold State.ready
  split
  · split
    · exact s.takeTransfer_governor _ lanes ppar
    · rfl
  · rfl

@[simp] theorem State.decline_governor : s.decline.governor = s.governor := by
  unfold State.decline
  split
  · split <;> rfl
  · rfl

@[simp] theorem State.readyLimitExpiry_governor : s.readyLimitExpiry.governor = s.governor := by
  unfold State.readyLimitExpiry
  split
  · split <;> rfl
  · rfl

@[simp] theorem State.recoveryEnd_governor : s.recoveryEnd.governor = s.governor := by
  unfold State.recoveryEnd
  split
  · split <;> rfl
  · rfl

@[simp] theorem State.completeFill_governor (op : Operation) : (s.completeFill op).governor = s.governor := by
  unfold State.completeFill
  split
  · rfl
  · rw [State.fillEnd_eq]
    rfl

@[simp] theorem State.completion_governor : s.completion.governor = s.governor := by
  unfold State.completion
  split
  · split
    · exact State.completeFill_governor _ _
    · rfl
  · rfl

@[simp] theorem State.issue_governor (job : Job) : (s.issue job).governor = s.governor := by
  unfold State.issue
  dsimp only
  split <;> rfl

@[simp] theorem State.takeRecord_governor (h : HostId) (r : Record) : (s.takeRecord h r).governor = s.governor := by
  unfold State.takeRecord
  split
  · rfl
  · exact State.issue_governor _ _

@[simp] theorem State.recoveryOver_governor : s.recoveryOver.governor = s.governor := by simp [State.recoveryOver]

@[simp] theorem State.endShortRecovery_governor : s.endShortRecovery.governor = s.governor := by
  unfold State.endShortRecovery
  split
  · split
    · exact s.recoveryOver_governor
    · rfl
  · rfl

@[simp] theorem State.endPhase_governor (op : Operation) : (s.endPhase op).governor = s.governor := by
  unfold State.endPhase
  split
  · exact s.setupEnd_governor false
  · exact State.strobePeriodEnd_governor _ false _ _
  · exact s.readyLimitExpiry_governor
  · exact s.recoveryOver_governor

@[simp] theorem State.countPhase_governor : s.countPhase.governor = s.governor := by
  unfold State.countPhase
  split
  · dsimp only
    split
    · exact State.endPhase_governor _ _
    · rfl
  · rfl

@[simp] theorem State.clockBeat_governor : s.clockBeat.governor = s.governor := by simp [State.clockBeat]

/-- The blocks informed of an accepted write change nothing of the three (R141 to R143). -/
@[simp] theorem State.inform_governor (old : ConfigSet) (item : Item) : (s.inform old item).governor = s.governor := by
  cases item with
  | mode slot =>
    unfold State.inform
    dsimp only
    split <;> rfl
  | _ => rfl

end Frame

/-! ## Every command and every step -/

section Events

variable {s t : State}

theorem State.acceptWrite_governorEvent (s : State) (h : HostId) {item : Item} {v : Word} (legal : item.legal v = true) :
    s.governor.Event (s.acceptWrite h item v).governor := by
  rw [State.acceptWrite, State.inform_governor]
  exact .write s.governor item v legal

theorem State.cfgDataWrite_governorEvent (s : State) (h : HostId) (v : Word) :
    s.governor.Event (s.cfgDataWrite h v).1.governor := by
  unfold State.cfgDataWrite
  split
  · exact .same _
  · split
    · exact s.acceptWrite_governorEvent h ‹_›
    · exact .same _

theorem State.cfgCdataWrite_governorEvent (s : State) (h : HostId) (v : Word) :
    s.governor.Event (s.cfgCdataWrite h v).1.governor := by
  unfold State.cfgCdataWrite
  split
  · exact .same _
  · split
    · exact .same _
    · next legal =>
      split
      · exact .same _
      · exact s.acceptWrite_governorEvent h (not_not.1 legal)

theorem State.writeReg_governorEvent (s : State) (h : HostId) (value : Word) (reg : ControlReg) :
    s.governor.Event (s.writeReg h value reg).1.governor := by
  cases reg with
  | noticePop => exact .of_eq (s.pop_governor h)
  | threshold => exact .of_eq (s.writeThreshold_governor h value)
  | release => exact .of_eq (s.release_governor h value)
  | rearm => exact .of_eq (s.rearm_governor h value)
  | cfgData => exact s.cfgDataWrite_governorEvent h value
  | cfgCdata => exact s.cfgCdataWrite_governorEvent h value
  | _ => exact .same _

/-- A decoded request is one event of the governing parts (R167). -/
theorem State.access_governorEvent (s : State) (h : HostId) (a : Access) :
    s.governor.Event (s.access h a).1.governor := by
  cases a with
  | slotRead slot offset width => exact .of_eq (s.slotRead_governor h slot offset width)
  | slotWrite slot offset width data => exact .of_eq (s.slotWrite_governor h slot offset width data)
  | readReg reg => exact .of_eq (s.readReg_governor h reg)
  | writeReg reg value => exact s.writeReg_governorEvent h value reg
  | badAddress => exact .same _

/-- The taking of a request adds nothing to what its owner does, and a DOWN port takes none (R162, R167). -/
theorem State.take_governorEvent {h : HostId} {f : State → State × Answer} (e : s.governor.Event (f s).1.governor) :
    s.governor.Event (s.take h f).governor := by
  unfold State.take
  split
  · exact e
  · exact .same _

theorem State.selection_governorEvent (s : State) : s.governor.Event s.selection.governor := by
  rcases s.selection_cases with e | ⟨h, q, r, -, grant, -, e⟩ <;> rw [e]
  · exact .same _
  · rw [State.takeRecord_governor]
    exact .select s.governor h q ((State.grant_cases grant).2.imp_left fun kept => kept.2.2)

/-- The divider counts a bus clock, or takes the tick on the clock that would bring it to the divisor (R149). -/
theorem State.divide_governorEvent (s : State) : s.governor.Event s.divide.governor := by
  unfold State.divide
  split
  · exact .tick s.governor
  · next room => exact .count s.governor (not_le.1 room)

theorem State.tickEvent_governorEvent (s : State) : s.governor.Event s.tickEvent.governor := by
  unfold State.tickEvent
  split
  · exact .same _
  · exact .tick s.governor

/-- A bus clock is at most one event of the governing parts, the divider's. -/
theorem State.clock_governorEvent (s : State) : s.governor.Event s.clock.governor := by
  unfold State.clock
  split
  · exact .same _
  · have settled : s.settle.governor = s.governor := s.endShortRecovery_governor
    rw [State.clockBeat_governor, ← settled]
    exact s.settle.divide_governorEvent

/-- A command is one event of the governing parts. -/
theorem exec_governorEvent {c : Instr} (run : exec c s = .next t) : s.governor.Event t.governor := by
  cases c with
  | slotRead h slot offset width =>
    cases run; exact State.take_governorEvent (.of_eq (s.slotRead_governor h slot offset width))
  | slotWrite h slot offset width data =>
    cases run; exact State.take_governorEvent (.of_eq (s.slotWrite_governor h slot offset width data))
  | unmappedRequest h word data => cases run; exact State.take_governorEvent (s.access_governorEvent h _)
  | portStatus h width offset => cases run; exact State.take_governorEvent (s.access_governorEvent h _)
  | noticePop h value => cases run; exact State.take_governorEvent (.of_eq (s.pop_governor h))
  | threshold h value => cases run; exact State.take_governorEvent (.of_eq (s.writeThreshold_governor h value))
  | cancelReads h value => cases run; exact State.take_governorEvent (.same _)
  | claim h n => cases run; exact State.take_governorEvent (.of_eq (s.claim_governor h n))
  | release h value => cases run; exact State.take_governorEvent (.of_eq (s.release_governor h value))
  | rearm h value => cases run; exact State.take_governorEvent (.of_eq (s.rearm_governor h value))
  | cfgDataWrite h value => cases run; exact State.take_governorEvent (s.cfgDataWrite_governorEvent h value)
  | cfgCdataWrite h value => cases run; exact State.take_governorEvent (s.cfgCdataWrite_governorEvent h value)
  | registerWrite h width offset value => cases run; exact State.take_governorEvent (s.access_governorEvent h _)
  | attentionLineActive n => cases run; exact .of_eq (s.attentionLine_governor n true)
  | attentionLineInactive n => cases run; exact .of_eq (s.attentionLine_governor n false)
  | tickEvent => cases run; exact s.tickEvent_governorEvent
  | collectionTimerExpiry h slot offset width => cases run; exact .same _
  | lifetimeExpiry e => cases run; exact .of_eq (s.lifetimeExpiry_governor e)
  | claimTimeout n => cases run; exact .same _
  | holdTimeout n => cases run; exact .same _
  | selection => cases run; exact s.selection_governorEvent
  | setupEnd pdcl => cases run; exact .of_eq (s.setupEnd_governor pdcl)
  | strobePeriodEnd prdy lanes ppar => cases run; exact .of_eq (s.strobePeriodEnd_governor prdy lanes ppar)
  | ready lanes ppar => cases run; exact .of_eq (s.ready_governor lanes ppar)
  | decline => cases run; exact .of_eq s.decline_governor
  | readyLimitExpiry => cases run; exact .of_eq s.readyLimitExpiry_governor
  | recoveryEnd => cases run; exact .of_eq s.recoveryEnd_governor
  | completion => cases run; exact .of_eq s.completion_governor
  | placementPass h => cases run; exact .of_eq (s.placementPass_governor h)
  | portReset h => cases run; exact .of_eq (s.assertPrst_governor h)
  | returnToUp h => cases run; exact .of_eq (s.deassertPrst_governor h)
  | gatewayReset => cases run; exact .reset _
  | gatewayResetEnd => cases run; exact .of_eq s.gatewayResetEnd_governor

/-- A step is one event of the governing parts. -/
theorem step_governorEvent (run : step s = .next t) : s.governor.Event t.governor := by
  unfold step at run
  split at run
  · cases run
    exact s.clock_governorEvent
  · next c rest _ => exact exec_governorEvent (s := { s with pending := rest }) run

end Events

/-! ## The words of the set -/

/-- A vector with one element set, read at each index. -/
theorem getElem_set_fin {α : Type} {n : Nat} (xs : Vector α n) (i j : Fin n) (x : α) :
    (xs.set i x)[j] = if j = i then x else xs[j] := by
  simp [Vector.getElem_set, Fin.ext_iff, eq_comm]

/-- A set with one item stored, read at each item (R131, R135). -/
theorem ConfigSet.read_store (c : ConfigSet) (v : Word) (item other : Item) :
    (c.store v item).read other = if other = item then v else c.read other := by
  cases item with
  | quota h => cases other with
    | quota g => simpa [store, read] using getElem_set_fin c.quota h g v
    | _ => rfl
  | mode slot => cases other with
    | mode g => simpa [store, read] using getElem_set_fin c.mode slot g v
    | _ => rfl
  | timingA slot => cases other with
    | timingA g => simpa [store, read] using getElem_set_fin c.timingA slot g v
    | _ => rfl
  | timingB slot => cases other with
    | timingB g => simpa [store, read] using getElem_set_fin c.timingB slot g v
    | _ => rfl
  | routeA n => cases other with
    | routeA g => simpa [store, read] using getElem_set_fin c.routeA n g v
    | _ => rfl
  | routeB n => cases other with
    | routeB g => simpa [store, read] using getElem_set_fin c.routeB n g v
    | _ => rfl
  | _ => cases other <;> rfl

/-- The generation is no item (R128, R136). -/
@[simp] theorem ConfigSet.read_generation (c : ConfigSet) (g : Word) (item : Item) :
    ({ c with generation := g } : ConfigSet).read item = c.read item := by
  cases item <;> rfl

/-- Every reset value is legal (R128, R129). -/
theorem ConfigSet.reset_legal (item : Item) : item.legal (ConfigSet.reset.read item) = true := by
  cases item with
  | quota h => revert h; decide
  | mode slot => revert slot; decide
  | timingA slot => revert slot; decide
  | timingB slot => revert slot; decide
  | routeA n => revert n; decide
  | routeB n => revert n; decide
  | _ => decide

/-- No legal TICK_DIV is 0 (R129). -/
theorem legal_tickDiv {v : Word} (legal : Item.legal .tickDiv v = true) : v ≠ 0#16 := by
  simpa [Item.legal, Item.zeroBits, Item.fieldsInRange] using legal

/-- A quantum is at most 8 (R34). -/
theorem ConfigSet.quantum_le (c : ConfigSet) : c.quantum ≤ 8 := by
  have code : field c.arbQuantum 0 2 < 4 := BitVec.isLt _
  exact Nat.pow_le_pow_right (by decide) (Nat.le_of_lt_succ code)

/-! ## What each event keeps -/

namespace Governor.Event

variable {g g' : Governor}

/-- Every item holds a legal word (R129). -/
theorem keeps_legal (e : g.Event g') (legal : ∀ item : Item, item.legal (g.cfg.read item) = true) :
    ∀ item : Item, item.legal (g'.cfg.read item) = true := by
  cases e with
  | write item v legalValue =>
    intro other
    rw [ConfigSet.read_generation, ConfigSet.read_store]
    split
    · next eq => exact eq ▸ legalValue
    · exact legal other
  | reset => exact ConfigSet.reset_legal
  | _ => exact legal

/-- TICK_DIV is never 0 (R129). -/
theorem keeps_tickDiv (e : g.Event g') (nonzero : g.cfg.tickDiv ≠ 0#16) : g'.cfg.tickDiv ≠ 0#16 := by
  cases e with
  | write item v legal =>
    cases item with
    | tickDiv => exact legal_tickDiv legal
    | _ => exact nonzero
  | reset => decide
  | _ => exact nonzero

/-- The divisor in effect is at least 1 and the count below it, as long as TICK_DIV is not 0 (R149). -/
theorem keeps_countBelow (e : g.Event g') (nonzero : g.cfg.tickDiv ≠ 0#16)
    (below : 1 ≤ g.timebase.divisor.toNat ∧ g.timebase.count < g.timebase.divisor.toNat) :
    1 ≤ g'.timebase.divisor.toNat ∧ g'.timebase.count < g'.timebase.divisor.toNat := by
  cases e with
  | count room => exact ⟨below.1, room⟩
  | tick =>
    have positive : 0 < g.cfg.tickDiv.toNat := by bv_omega
    exact ⟨positive, positive⟩
  | reset => decide
  | _ => exact below

/-- The quantum remaining is at most 8, and 0 without a holder (R30, R34). -/
theorem keeps_quantum (e : g.Event g')
    (sound : g.arbiter.quantum ≤ 8 ∧ (g.arbiter.holder = none → g.arbiter.quantum = 0)) :
    g'.arbiter.quantum ≤ 8 ∧ (g'.arbiter.holder = none → g'.arbiter.quantum = 0) := by
  cases e with
  | select h q loaded =>
    have within : q ≤ 8 := by
      rcases loaded with rfl | rfl
      · exact sound.1
      · exact g.cfg.quantum_le
    exact ⟨(Nat.sub_le q 1).trans within, nofun⟩
  | reset => decide
  | _ => exact sound

end Governor.Event

end Sys2Proof.Machine

namespace Sys2Proof.Proofs

open Sys2Proof.Machine Sys2Proof.Statements

/-- Settles O60: a step is one event of the set, the timebase and the arbiter, and each event keeps their ranges. -/
theorem stepKeepsTheSetTimebaseAndArbiter : Obligations.StepKeepsTheSetTimebaseAndArbiter := by
  refine ⟨fun s t legal run => (step_governorEvent run).keeps_legal legal, ?_,
    fun s t sound run => (step_governorEvent run).keeps_quantum sound⟩
  rintro s t ⟨positive, below, nonzero⟩ run
  obtain ⟨positive', below'⟩ := (step_governorEvent run).keeps_countBelow nonzero ⟨positive, below⟩
  exact ⟨positive', below', (step_governorEvent run).keeps_tickDiv nonzero⟩

end Sys2Proof.Proofs
end

section
/-!
PROOFS. The selection: which host the grant goes to, and how the record it takes is issued.
-/

namespace Sys2Proof.Machine

open Sys2Proof.Statements

/-! ## The grant -/

/-- A host is eligible while one of its records is QUEUED (R31). -/
theorem State.eligible_iff {s : State} {h : HostId} :
    s.eligible h = true ↔ ∃ r ∈ s.pool, r.host = h ∧ r.state = .queued := by
  simp [State.eligible, Record.isQueuedOf]

/-- A pass goes round all hosts from the one behind the holder, or from H0 where there is none (R33). -/
theorem passOrder_eq (holder : Option HostId) :
    passOrder holder = (List.finRange 4).map fun d => holder.getD 3 + 1 + d := by
  revert holder
  decide

/-- The host that a pass finds is the first, counted from where the pass begins (R33). -/
theorem first_of_passOrder {holder : Option HostId} {p : HostId → Bool} {g : HostId}
    (found : (passOrder holder).find? p = some g) :
    ∃ d : Fin 4, g = holder.getD 3 + 1 + d ∧ ∀ d' : Fin 4, d' < d → p (holder.getD 3 + 1 + d') = false := by
  rw [passOrder_eq, List.find?_map, ← Fin.find?_eq_find?_finRange] at found
  obtain ⟨d, first, rfl⟩ := Option.map_eq_some_iff.1 found
  exact ⟨d, rfl, (Fin.find?_eq_some_iff.1 first).2⟩

/-- A pass looks at every host, so it finds one where one meets the test (R33). -/
theorem passOrder_finds {p : HostId → Bool} {h : HostId} (here : p h = true) (holder : Option HostId) :
    ∃ g, (passOrder holder).find? p = some g := by
  have mem : ∀ (holder : Option HostId) (h : HostId), h ∈ passOrder holder := by decide
  exact Option.isSome_iff_exists.1 (List.find?_isSome.2 ⟨h, mem holder h, here⟩)

/-- The quantum that the ARB_QUANTUM code loads (R34). -/
theorem ConfigSet.quantum_eq (c : ConfigSet) : c.quantum = 2 ^ (c.arbQuantum.toNat % 4) := by
  simp [ConfigSet.quantum, field]

section Grant

variable {s : State} {g : HostId} {q : Nat}

/-- An eligible holder with quantum left keeps the grant (R33). -/
theorem State.grant_kept (holder : s.arbiter.holder = some g) (eligible : s.eligible g = true)
    (left : 1 ≤ s.arbiter.quantum) : s.grant = some (g, s.arbiter.quantum) := by
  simp only [State.grant, holder]
  exact if_pos ⟨eligible, left⟩

/-- Any other grant passes, to the first eligible host of the pass with a fresh quantum (R33, R34). -/
theorem State.grant_passed
    (passes : ∀ g, s.arbiter.holder = some g → ¬ (s.eligible g = true ∧ 1 ≤ s.arbiter.quantum)) :
    s.grant = ((passOrder s.arbiter.holder).find? s.eligible).map fun h => (h, s.cfg.quantum) := by
  unfold State.grant
  cases holder : s.arbiter.holder with
  | none => rfl
  | some g => exact if_neg (passes g holder)

/-- No selection is taken while the sequencer is busy or no host is eligible (R32). -/
theorem State.selection_notTaken (notDue : s.sequencer ≠ none ∨ ∀ h, s.eligible h = false) : s.selection = s := by
  rcases s.selection_cases with same | ⟨h, q, r, idle, grant, -, -⟩
  · exact same
  · rcases notDue with busy | nobody
    · exact absurd idle busy
    · exact absurd (State.grant_cases grant).1 (Bool.eq_false_iff.1 (nobody h))

/-- A host with a grant has a record to take, and the selection leaves it as the holder (R30, R35). -/
theorem State.selection_arbiter (idle : s.sequencer = none) (grant : s.grant = some (g, q)) :
    s.selection.arbiter = { holder := some g, quantum := q - 1 } := by
  obtain ⟨r, found⟩ : ∃ r, s.pool.find? (Record.isQueuedOf g) = some r := by
    refine Option.isSome_iff_exists.1 (List.find?_isSome.2 ?_)
    exact List.any_eq_true.1 (State.grant_cases grant).1
  rw [State.selection_taken idle grant found]
  exact congrArg Governor.arbiter (State.takeRecord_governor _ g r)

end Grant

/-! ## The entry that a fill reserves -/

section Reserve

variable {l : ReadAhead}

/-- While an entry is INVALID, the one with the lowest number is reserved (R70). -/
theorem ReadAhead.reserveChoice_invalid (free : ∃ f : EntryId, l.entries[f] = .invalid) :
    l.entries[l.reserveChoice] = .invalid ∧ ∀ f : EntryId, f < l.reserveChoice → l.entries[f] ≠ .invalid := by
  have search := find?_allEight fun e => l.entries[e].isInvalid
  cases found : allEight.find? fun e => l.entries[e].isInvalid with
  | none =>
    rw [found] at search
    obtain ⟨f, invalid⟩ := free
    exact absurd (LineEntry.isInvalid_iff.2 invalid) (Bool.eq_false_iff.1 (search f))
  | some e =>
    rw [found] at search
    obtain ⟨here, below⟩ := search
    obtain rfl : l.reserveChoice = e := by simp only [ReadAhead.reserveChoice, found]
    exact ⟨LineEntry.isInvalid_iff.1 here, fun f lt invalid =>
      Bool.eq_false_iff.1 (below f lt) (LineEntry.isInvalid_iff.2 invalid)⟩

/-- Where every entry is in use the least recent is reserved (R70). -/
theorem ReadAhead.reserveChoice_leastRecent (used : ∀ f : EntryId, l.entries[f] ≠ .invalid) (sound : l.RecencySound) :
    l.recency.getLast? = some l.reserveChoice := by
  have inUse (f : EntryId) : l.entries[f].isInvalid = false :=
    Bool.eq_false_iff.2 fun invalid => used f (LineEntry.isInvalid_iff.1 invalid)
  have nonempty : l.recency ≠ [] := List.ne_nil_of_mem ((sound.2 0).2 (inUse 0))
  have full : (allEight.find? fun e => l.entries[e].isInvalid) = none :=
    List.find?_eq_none.2 fun f _ => Bool.eq_false_iff.1 (inUse f)
  simp only [ReadAhead.reserveChoice, full, List.getLast?_eq_some_getLast nonempty, Option.getD_some]

end Reserve

/-! ## Issue -/

/-- A record that no VALID line covers, or that is no READ of a prefetchable slot, completes from none (R36). -/
theorem State.completingEntry_eq_none {s : State} {job : Job}
    (uncovered : job.kind ≠ .read ∨ (s.cfg.mode[job.slot]).getLsbD 2 = false ∨
      ∀ e data timer, s.entry e ≠ .valid job.slot (lineBase job.offset) data timer) :
    s.completingEntry job = none := by
  unfold State.completingEntry
  split
  · next reads =>
    have read : job.kind = .read := Job.isWrite_eq_false.1 (Bool.not_eq_true _ ▸ reads.1)
    have prefetchable : (s.cfg.mode[job.slot]).getLsbD 2 = true := reads.2
    rcases uncovered with write | off | uncovered
    · exact absurd read write
    · exact absurd prefetchable (Bool.eq_false_iff.1 off)
    · exact State.validEntry_eq_none.2 uncovered
  · rfl

/-- The operation issued is a fill for a READ of a prefetchable slot, with LINE_LIFE not 0, of a line that no entry and no
pending write stands against (R48). -/
theorem State.isFill_iff {s : State} {job : Job} :
    s.isFill job = true ↔
      job.kind = .read ∧ (s.cfg.mode[job.slot]).getLsbD 2 = true ∧ s.cfg.lineLife ≠ 0#16 ∧
        s.validEntry job.slot job.offset = none ∧ ¬ WritePendingInLine s job.slot (lineBase job.offset) := by
  simp only [State.isFill, Bool.and_eq_true, Bool.not_eq_true', bne_iff_ne, Job.isWrite_eq_false,
    Option.isNone_iff_eq_none, ← State.lineQuery_iff, Bool.not_eq_true, ConfigSet.prefetchable, and_assoc]

/-- A record on the bus is as much a write still to be performed as while it was QUEUED (R13). -/
theorem writePending_issued {s u : State} {a b : List Record} {r : Record} (eq : s.pool = a ++ r :: b)
    (queued : r.state = .queued) (after : u.pool = a ++ { r with state := .onBus false } :: b) (slot : SlotId)
    (base : Word) : WritePendingInLine u slot base ↔ WritePendingInLine s slot base := by
  have same : PendingWrite { r with state := .onBus false } ↔ PendingWrite r := by simp [PendingWrite, queued]
  simp only [WritePendingInLine, eq, after, List.mem_append, List.mem_cons, or_and_right, exists_or, exists_eq_left, same]

/-- The direction of a job's beats (R51). -/
theorem Job.isWrite_eq_decide (job : Job) : job.isWrite = decide (job.kind ≠ .read) := by
  rw [Bool.eq_iff_iff, Job.isWrite_eq_true, decide_eq_true_iff]

/-- The first beat of an operation is the first of its plan (R50, R51). -/
theorem Operation.beatOffset_first {op : Operation} (first : op.index = 1) : op.beatOffset = op.plan.headD 0#16 := by
  rw [Operation.beatOffset, first]
  cases op.plan <;> rfl

/-- The operation issued for a fill (R47, R48). -/
theorem State.issuedOperation_fill {s : State} {job : Job} (fill : s.isFill job = true) :
    (s.issuedOperation job).fillLine = some (job.slot, lineBase job.offset) ∧
      (s.issuedOperation job).plan = fillPlan (s.issuedOperation job).profile.wide job := by
  simp [State.issuedOperation, fill]

/-- The operation issued for a single access (R47, R48). -/
theorem State.issuedOperation_access {s : State} {job : Job} (access : s.isFill job = false) :
    (s.issuedOperation job).fillLine = none ∧
      (s.issuedOperation job).plan = accessPlan (s.issuedOperation job).profile.wide job := by
  simp [State.issuedOperation, access]

/-- An issue starts the operation, drives its first beat, and reserves an entry for a fill (R47, R51). -/
theorem State.issue_eq (s : State) (job : Job) :
    let op := s.issuedOperation job
    s.issue job =
      { s with
        sequencer := some op
        lines :=
          if op.fillLine.isSome then
            linesPlaced s.lines s.lines.reserveChoice (.filling job.slot (lineBase job.offset) false)
          else s.lines
        bus :=
          { psel := some job.slot, pstb := false, pa := op.plan.headD 0#16, pwr := decide (job.kind ≠ .read)
            pd := op.writeLanes, ppar := op.writeLanes.map op.profile.writeParity, pbrst := s.bus.pbrst } } := by
  intro op
  rw [← Operation.beatOffset_first (op := op) rfl, ← Job.isWrite_eq_decide]
  unfold State.issue
  cases fill : s.isFill job with
  | true =>
    rw [(State.issuedOperation_fill fill).1]
    rfl
  | false =>
    rw [(State.issuedOperation_access fill).1]
    rfl

/-- The state in which a selection issues the record `r` between `a` and `b`: the grant made and `r` ON_BUS (R35). -/
def State.granted (s : State) (g : HostId) (q : Nat) (a : List Record) (r : Record) (b : List Record) : State :=
  { s with
    arbiter := { holder := some g, quantum := q - 1 }
    pool := a ++ { r with state := .onBus false } :: b }

/-- A record that completes from no line becomes ON_BUS and is issued (R47). -/
theorem State.takeRecord_issued {s : State} {g : HostId} {a b : List Record} {r : Record}
    (uncovered : s.completingEntry r.toJob = none) (eq : s.pool = a ++ r :: b)
    (before : ∀ x ∈ a, x.isQueuedOf g = false) (here : r.isQueuedOf g = true) :
    s.takeRecord g r = State.issue { s with pool := a ++ { r with state := .onBus false } :: b } r.toJob := by
  simp only [State.takeRecord, uncovered, State.setOldestQueued, eq, updateFirst_append before here]

section Selected

variable {s : State} {g : HostId} {q : Nat} {a b : List Record} {r : Record}

/-- A selection issues the holder's oldest QUEUED record where no line completes it (R35, R47). -/
theorem State.selection_issued (idle : s.sequencer = none) (grant : s.grant = some (g, q)) (eq : s.pool = a ++ r :: b)
    (host : r.host = g) (queued : r.state = .queued) (before : ∀ x ∈ a, ¬ (x.host = g ∧ x.state = .queued))
    (uncovered : s.completingEntry r.toJob = none) :
    s.selection = (s.granted g q a r b).issue r.toJob := by
  obtain ⟨before, here, found⟩ := State.find?_queued eq host queued before
  rw [State.selection_taken idle grant found]
  exact State.takeRecord_issued uncovered eq before here

/-- Whether the record is issued as a fill, seen from the state before the selection (R48). -/
theorem State.granted_isFill_iff (eq : s.pool = a ++ r :: b) (queued : r.state = .queued)
    (uncovered : r.kind ≠ .read ∨ (s.cfg.mode[r.slot]).getLsbD 2 = false ∨
      ∀ e data timer, s.entry e ≠ .valid r.slot (lineBase r.offset) data timer) :
    (s.granted g q a r b).isFill r.toJob = true ↔
      r.kind = .read ∧ (s.cfg.mode[r.slot]).getLsbD 2 = true ∧ s.cfg.lineLife ≠ 0#16 ∧
        ¬ WritePendingInLine s r.slot (lineBase r.offset) := by
  rw [State.isFill_iff, writePending_issued eq queued rfl]
  constructor
  · rintro ⟨read, on, life, -, free⟩
    exact ⟨read, on, life, free⟩
  · rintro ⟨read, on, life, free⟩
    have absent := (uncovered.resolve_left (not_not.2 read)).resolve_left fun off => Bool.eq_false_iff.1 off on
    exact ⟨read, on, life, State.validEntry_eq_none.2 absent, free⟩

end Selected

/-- The beats of a single access: two for a WORD on an 8-bit slot, else one (R49). -/
theorem accessPlan_eq (wide : Bool) (job : Job) :
    accessPlan wide job =
      if wide = false ∧ job.width = .word then [job.offset, job.offset + 1#16] else [job.offset] := by
  simp [accessPlan]

end Sys2Proof.Machine

namespace Sys2Proof.Proofs

open Sys2Proof.Machine Sys2Proof.Statements

/-- Settles O21: the grant is kept, or the pass finds the first eligible host; the selection writes it to the arbiter. -/
theorem selectionGrantsRoundRobin : Obligations.SelectionGrantsRoundRobin := by
  intro s
  simp only [← State.eligible_iff]
  refine ⟨fun none => congrArg Host.Outcome.next (State.selection_notTaken (by simpa using none)), ?_⟩
  rintro idle ⟨h, eligible⟩
  by_cases keeps : ∃ g, s.arbiter.holder = some g ∧ s.eligible g = true ∧ 1 ≤ s.arbiter.quantum
  · obtain ⟨g, holder, eligible, left⟩ := keeps
    exact ⟨_, g, _, rfl, State.selection_arbiter idle (State.grant_kept holder eligible left),
      fun _ => ⟨holder, rfl⟩, fun passes => absurd ⟨g, holder, eligible, left⟩ passes⟩
  · obtain ⟨g, found⟩ := passOrder_finds eligible s.arbiter.holder
    have grant : s.grant = some (g, s.cfg.quantum) := by
      rw [State.grant_passed fun g holder kept => keeps ⟨g, holder, kept⟩, found]
      rfl
    obtain ⟨d, eq, earlier⟩ := first_of_passOrder found
    exact ⟨_, g, _, rfl, State.selection_arbiter idle grant, fun kept => absurd kept keeps,
      fun _ => ⟨s.cfg.quantum_eq, List.find?_some found, d, eq, fun d' lt => by simp [earlier d' lt]⟩⟩

/-- Settles O23: the record taken completes from no line, so it is issued; the issue is a fill or a single access. -/
theorem selectionIssuesAnOperation : Obligations.SelectionIssuesAnOperation := by
  intro s g q a r b idle grant eq host queued before uncovered
  have fills := State.granted_isFill_iff (g := g) (q := q) eq queued uncovered
  have issued :=
    State.selection_issued idle grant eq host queued before (State.completingEntry_eq_none uncovered)
  refine ⟨(s.granted g q a r b).issuedOperation r.toJob, s.lines.reserveChoice,
    congrArg Host.Outcome.next (issued.trans (State.issue_eq _ _)), rfl, rfl, rfl, rfl, rfl, rfl, rfl,
    fun fill => State.issuedOperation_fill (fills.2 fill), fun access => ?_,
    ReadAhead.reserveChoice_invalid, ReadAhead.reserveChoice_leastRecent⟩
  rw [← accessPlan_eq]
  exact State.issuedOperation_access (Bool.eq_false_iff.2 (access ∘ fills.1))

end Sys2Proof.Proofs
end

section
/-!
PROOFS. The beat: what each of its events does in its own phase, and that it is no event in another; the data and the
parity that a beat carries.
-/

namespace Sys2Proof.Machine

open Sys2Proof.Statements

/-! ## The events of a beat in their phase, and outside it -/

/-- The strobe of the beat in progress has begun: PSTB is asserted (R51). -/
def State.strobed (s : State) (op : Operation) : State :=
  { s with
    sequencer := some { op with phase := .strobe, phaseClocks := 0 }
    bus := { s.bus with pstb := true } }

section Phases

variable {s : State} {op : Operation}

/-- What is so of the operation in flight is so of every operation that is in flight: there is one. -/
theorem forall_busy {sequencer : Option Operation} {P : Operation → Prop} (busy : sequencer = some op) (here : P op) :
    ∀ other, sequencer = some other → P other := by
  intro other also
  cases busy.symm.trans also
  exact here

/-- While the sequencer is IDLE nothing is asked of an operation. -/
theorem forall_busy_of_idle {sequencer : Option Operation} {P : Operation → Prop} (idle : sequencer = none) :
    ∀ op, sequencer = some op → P op := by
  intro op busy
  cases idle.symm.trans busy

theorem State.setupEnd_notDue (off : ∀ op, s.sequencer = some op → op.phase ≠ .setup) (pdcl : Bool) :
    s.setupEnd pdcl = s := by
  unfold State.setupEnd
  split
  · exact if_neg (off _ ‹_›)
  · rfl

theorem State.setupEnd_strobe (busy : s.sequencer = some op) (phase : op.phase = .setup) :
    s.setupEnd false = s.strobed op := by
  simp only [State.setupEnd, busy, phase, if_true, Bool.false_eq_true, if_false, State.strobed]

theorem State.setupEnd_declined (busy : s.sequencer = some op) (phase : op.phase = .setup) :
    s.setupEnd true = s.enterRecovery op (some .busDeclined) := by
  simp only [State.setupEnd, busy, phase, if_true]

theorem State.strobePeriodEnd_notDue (off : ∀ op, s.sequencer = some op → op.phase ≠ .strobe) (prdy : Bool)
    (lanes : Word) (ppar : Bool) : s.strobePeriodEnd prdy lanes ppar = s := by
  unfold State.strobePeriodEnd
  split
  · exact if_neg (off _ ‹_›)
  · rfl

theorem State.strobePeriodEnd_taken {prdy : Bool} (busy : s.sequencer = some op) (phase : op.phase = .strobe)
    (given : op.profile.readyLimit = 0 ∨ prdy = true) (lanes : Word) (ppar : Bool) :
    s.strobePeriodEnd prdy lanes ppar = s.takeTransfer op lanes ppar := by
  simp only [State.strobePeriodEnd, busy, phase, if_true, if_pos given]

theorem State.strobePeriodEnd_waits {prdy : Bool} (busy : s.sequencer = some op) (phase : op.phase = .strobe)
    (missing : ¬ (op.profile.readyLimit = 0 ∨ prdy = true)) (lanes : Word) (ppar : Bool) :
    s.strobePeriodEnd prdy lanes ppar =
      { s with sequencer := some { op with phase := .readyWait, phaseClocks := 0 } } := by
  simp only [State.strobePeriodEnd, busy, phase, if_true, if_neg missing]

theorem State.ready_notDue (off : ∀ op, s.sequencer = some op → op.phase ≠ .readyWait) (lanes : Word) (ppar : Bool) :
    s.ready lanes ppar = s := by
  unfold State.ready
  split
  · exact if_neg (off _ ‹_›)
  · rfl

theorem State.ready_taken (busy : s.sequencer = some op) (phase : op.phase = .readyWait) (lanes : Word) (ppar : Bool) :
    s.ready lanes ppar = s.takeTransfer op lanes ppar := by
  simp only [State.ready, busy, phase, if_true]

theorem State.decline_notDue (off : ∀ op, s.sequencer = some op → ¬ (op.phase = .strobe ∨ op.phase = .readyWait)) :
    s.decline = s := by
  unfold State.decline
  split
  · exact if_neg (off _ ‹_›)
  · rfl

theorem State.decline_due (busy : s.sequencer = some op) (phase : op.phase = .strobe ∨ op.phase = .readyWait) :
    s.decline = s.enterRecovery op (some .busDeclined) := by
  simp only [State.decline, busy, if_pos phase]

theorem State.readyLimitExpiry_notDue (off : ∀ op, s.sequencer = some op → op.phase ≠ .readyWait) :
    s.readyLimitExpiry = s := by
  unfold State.readyLimitExpiry
  split
  · exact if_neg (off _ ‹_›)
  · rfl

theorem State.readyLimitExpiry_due (busy : s.sequencer = some op) (phase : op.phase = .readyWait) :
    s.readyLimitExpiry = s.enterRecovery op (some .busTimeout) := by
  simp only [State.readyLimitExpiry, busy, phase, if_true]

theorem State.recoveryEnd_notDue
    (off : ∀ op, s.sequencer = some op → op.phase ≠ .recovery ∨ op.endingFault ≠ none ∨ op.plan.length ≤ op.index) :
    s.recoveryEnd = s := by
  unfold State.recoveryEnd
  split
  · next op busy =>
    refine if_neg fun due => ?_
    rcases off op busy with phase | last
    · exact phase due.1
    · exact due.2 (Operation.lastBeat_iff.2 last)
  · rfl

theorem State.recoveryEnd_next (busy : s.sequencer = some op) (phase : op.phase = .recovery)
    (clean : op.endingFault = none) (further : op.index < op.plan.length) :
    s.recoveryEnd = s.beginBeat { op with index := op.index + 1 } := by
  have notLast : ¬ op.lastBeat = true := by simp [Operation.lastBeat_iff, clean, further]
  simp only [State.recoveryEnd, busy]
  exact if_pos ⟨phase, notLast⟩

end Phases

/-! ## Data and parity -/

theorem ones_eq_length (n : Nat) (lanes : Word) :
    ones n lanes = ((List.range n).filter fun i => lanes.getLsbD i).length :=
  List.countP_eq_length_filter

/-- The check of a read beat's parity is the statements' `ParityHolds` (R54). -/
theorem Profile.parityAgrees_iff {p : Profile} {lanes : Word} {ppar : Bool} :
    p.parityAgrees lanes ppar = true ↔ ParityHolds p lanes ppar := by
  unfold Profile.parityAgrees ParityHolds
  cases p.parity <;> simp [ones_eq_length, Profile.laneCount]

/-- The PPAR driven on a write beat makes the parity that the slot has hold (R55). -/
theorem Profile.writeParity_agrees (p : Profile) (lanes : Word) :
    p.parityAgrees lanes (p.writeParity lanes) = true := by
  unfold Profile.parityAgrees Profile.writeParity
  rcases Nat.mod_two_eq_zero_or_one (ones p.laneCount lanes) with even | odd
  · cases p.parity <;> simp [Nat.add_mod, even]
  · cases p.parity <;> simp [Nat.add_mod, odd]

section Transfer

variable {s : State} {op : Operation}

theorem State.takeTransfer_write (write : op.job.kind ≠ .read) (lanes : Word) (ppar : Bool) :
    s.takeTransfer op lanes ppar = s.enterRecovery op none :=
  if_pos (Job.isWrite_eq_true.2 write)

theorem State.takeTransfer_sampled {lanes : Word} {ppar : Bool} (read : op.job.kind = .read)
    (parity : ParityHolds op.profile lanes ppar) :
    s.takeTransfer op lanes ppar =
      s.enterRecovery { op with collected := op.collected ++ op.sampledBytes lanes } none := by
  simp [State.takeTransfer, Job.isWrite_eq_false.2 read, Profile.parityAgrees_iff.2 parity]

theorem State.takeTransfer_busParity {lanes : Word} {ppar : Bool} (read : op.job.kind = .read)
    (parity : ¬ ParityHolds op.profile lanes ppar) :
    s.takeTransfer op lanes ppar = s.enterRecovery op (some .busParity) := by
  simp [State.takeTransfer, Job.isWrite_eq_false.2 read, Profile.parityAgrees_iff.not.2 parity]

end Transfer

end Sys2Proof.Machine

namespace Sys2Proof.Proofs

open Sys2Proof.Machine Sys2Proof.Statements

/-- Settles O25, event by event: in its phase by what the event does, in another and at rest because it is not due. -/
theorem beatPhases : Obligations.BeatPhases := by
  refine ⟨fun s idle pdcl prdy lanes ppar => ?_, fun s op busy => ?_⟩
  · have none {P : Operation → Prop} : ∀ op, s.sequencer = some op → P op := forall_busy_of_idle idle
    exact ⟨congrArg _ (State.setupEnd_notDue none pdcl), congrArg _ (State.strobePeriodEnd_notDue none prdy lanes ppar),
      congrArg _ (State.ready_notDue none lanes ppar), congrArg _ (State.decline_notDue none),
      congrArg _ (State.readyLimitExpiry_notDue none), congrArg _ (State.recoveryEnd_notDue none)⟩
  · refine ⟨fun off pdcl => ?_, fun off prdy lanes ppar => ?_, fun off => ⟨fun lanes ppar => ?_, ?_⟩,
      fun offStrobe offWait => ?_, fun off => ?_, fun phase => ⟨?_, ?_⟩, fun phase limit lanes ppar => ?_,
      fun phase => ?_, fun phase => ?_, fun phase clean further => ?_⟩
    · exact congrArg _ (State.setupEnd_notDue (forall_busy busy off) pdcl)
    · exact congrArg _ (State.strobePeriodEnd_notDue (forall_busy busy off) prdy lanes ppar)
    · exact congrArg _ (State.ready_notDue (forall_busy busy off) lanes ppar)
    · exact congrArg _ (State.readyLimitExpiry_notDue (forall_busy busy off))
    · exact congrArg _ (State.decline_notDue (forall_busy busy (not_or.2 ⟨offStrobe, offWait⟩)))
    · exact congrArg _ (State.recoveryEnd_notDue (forall_busy busy off))
    · exact congrArg _ (State.setupEnd_strobe busy phase)
    · exact congrArg _ (State.setupEnd_declined busy phase)
    · exact congrArg _ (State.strobePeriodEnd_waits busy phase (by simp [limit]) lanes ppar)
    · exact congrArg _ (State.decline_due busy phase)
    · exact congrArg _ (State.readyLimitExpiry_due busy phase)
    · intro following
      rw [← Job.isWrite_eq_decide]
      exact congrArg _ (State.recoveryEnd_next busy phase clean further)

/-- Settles O26, by the moment at which the transfer is taken, then by the kind of the beat and its parity. -/
theorem transferIsTakenAndSampled : Obligations.TransferIsTakenAndSampled := by
  intro s op lanes ppar c busy moment o low high
  have taken : exec c s = .next (s.takeTransfer op lanes ppar) := by
    rcases moment with ⟨phase, prdy, rfl, given⟩ | ⟨phase, rfl⟩
    · exact congrArg _ (State.strobePeriodEnd_taken busy phase given lanes ppar)
    · exact congrArg _ (State.ready_taken busy phase lanes ppar)
  refine ⟨fun write => ?_, fun read parity => ?_, fun read parity => ?_⟩
  · exact taken.trans (congrArg _ (State.takeTransfer_write write lanes ppar))
  · exact taken.trans (congrArg _ (State.takeTransfer_busParity read parity))
  · exact taken.trans (congrArg _ (State.takeTransfer_sampled read parity))

/-- Settles O27: the lanes by the slot's width and the beat, the parity by its mode. -/
theorem writeBeatDrivesDataAndParity : Obligations.WriteBeatDrivesDataAndParity := by
  intro op data write
  refine ⟨fun wide word => ?_, fun wide byte => ?_, fun narrow first => ?_, fun narrow second => ?_,
    fun lanes => ⟨?_, ?_⟩⟩
  · simp [Operation.writeLanes, write, wide, word, keepWidth]
  · simp [Operation.writeLanes, write, wide, byte, keepWidth]
  · simp [Operation.writeLanes, write, narrow, first]
  · simp [Operation.writeLanes, write, narrow, second]
  · intro none
    simp only [Profile.writeParity, none]
  · exact fun _ => Profile.parityAgrees_iff.1 (op.profile.writeParity_agrees lanes)

end Sys2Proof.Proofs
end

section
/-!
PROOFS. The plan of a fill. The number of each of its beats is given once, and what the plan covers is arithmetic on
those numbers; a fill that has taken every beat has every byte of its line.
-/

namespace Sys2Proof.Machine

open Sys2Proof.Statements

/-! ## Offsets, lines and parities as numbers -/

/-- A mask that keeps the bits from `k` on rounds a word down to a multiple of `2 ^ k`. -/
theorem and_high_toNat {mask : Word} {k : Nat} (bits : ∀ i, i < 16 → mask.getLsbD i = decide (k ≤ i)) (v : Word) :
    (v &&& mask).toNat = v.toNat / 2 ^ k * 2 ^ k := by
  have shifted : v &&& mask = (v >>> k) <<< k := by
    refine BitVec.eq_of_getLsbD_eq fun i hi => ?_
    by_cases high : k ≤ i
    · simp [bits i hi, hi, high, Nat.not_lt.2 high]
    · simp [bits i hi, high, Nat.not_le.1 high]
  have bound : v.toNat / 2 ^ k * 2 ^ k < 2 ^ 16 := (Nat.div_mul_le_self _ _).trans_lt v.isLt
  rw [shifted, BitVec.toNat_shiftLeft, BitVec.toNat_ushiftRight, Nat.shiftLeft_eq, Nat.shiftRight_eq_div_pow,
    Nat.mod_eq_of_lt bound]

theorem lineBase_toNat (o : Word) : (lineBase o).toNat = 16 * (o.toNat / 16) :=
  (and_high_toNat (k := 4) (by decide) o).trans (Nat.mul_comm _ _)

/-- Two offsets lie in one line exactly when they are in one block of 16 (R3). -/
theorem lineBase_eq_iff {o p : Word} : lineBase o = lineBase p ↔ o.toNat / 16 = p.toNat / 16 := by
  rw [← BitVec.toNat_inj, lineBase_toNat, lineBase_toNat, Nat.mul_right_inj (by decide)]

theorem and_evenMask_toNat (v : Word) : (v &&& 0xFFFE#16).toNat = v.toNat / 2 * 2 :=
  and_high_toNat (k := 1) (by decide) v

theorem and_lowMask_toNat (v : Word) : (v &&& 0x000F#16).toNat = v.toNat % 16 := by
  rw [BitVec.toNat_and]
  exact Nat.and_two_pow_sub_one_eq_mod v.toNat 4

/-- An offset is even exactly when its lowest bit is 0. -/
theorem even_iff {o : Word} : o.getLsbD 0 = false ↔ o.toNat % 2 = 0 := by
  rw [← BitVec.testBit_toNat, Nat.testBit_zero]
  simp

/-! ## The beats of a fill -/

/-- The distance of two neighbouring beats of a fill: 2 on a 16-bit slot, else 1 (R50). -/
def fillStride (wide : Bool) : Nat := if wide then 2 else 1

/-- Beat `i` of the plan of a fill, counted from 0 (R50). -/
def fillBeat (wide : Bool) (offset : Word) (i : Nat) : Word :=
  if wide then lineBase offset + (((offset &&& 0x000E#16) + BitVec.ofNat 16 (2 * i)) &&& 0x000F#16)
  else lineBase offset + ((offset + BitVec.ofNat 16 i) &&& 0x000F#16)

/-- The plan of a fill is its beats in order (R50). -/
theorem fillPlan_eq (wide : Bool) (job : Job) :
    fillPlan wide job = (List.range (16 / fillStride wide)).map (fillBeat wide job.offset) := by
  cases wide <;> rfl

/-- The number of a beat: within the line's block, counted from the critical beat in steps of the stride, modulo the
line's length. -/
theorem fillBeat_toNat (wide : Bool) (offset : Word) (i : Nat) :
    (fillBeat wide offset i).toNat =
      16 * (offset.toNat / 16) +
        fillStride wide * ((offset.toNat % 16 / fillStride wide + i) % (16 / fillStride wide)) := by
  have bound := offset.isLt
  cases wide with
  | false =>
    simp only [fillBeat, fillStride, Bool.false_eq_true, if_false, BitVec.toNat_add, lineBase_toNat, and_lowMask_toNat,
      BitVec.toNat_ofNat]
    omega
  | true =>
    have split : offset &&& 0x000E#16 = (offset &&& 0x000F#16) &&& 0xFFFE#16 := by rw [BitVec.and_assoc]; rfl
    simp only [fillBeat, fillStride, if_true, BitVec.toNat_add, lineBase_toNat, split, and_evenMask_toNat,
      and_lowMask_toNat, BitVec.toNat_ofNat]
    omega

/-- The plan of a fill holds no beat twice (R50). -/
theorem fillPlan_nodup (wide : Bool) (job : Job) : (fillPlan wide job).Nodup := by
  rw [fillPlan_eq]
  refine List.Nodup.map_on (fun i hi j hj same => ?_) List.nodup_range
  have hi := List.mem_range.1 hi
  have hj := List.mem_range.1 hj
  have number := congrArg BitVec.toNat same
  rw [fillBeat_toNat, fillBeat_toNat] at number
  cases wide <;> simp only [fillStride, Bool.false_eq_true, if_false, if_true] at hi hj number <;> omega

/-- The beats of a fill are the offsets of the line, the even ones on a 16-bit slot (R50). -/
theorem mem_fillPlan {wide : Bool} {job : Job} {o : Word} :
    o ∈ fillPlan wide job ↔ lineBase o = lineBase job.offset ∧ (wide = true → o.getLsbD 0 = false) := by
  rw [fillPlan_eq, lineBase_eq_iff, even_iff, List.mem_map]
  constructor
  · rintro ⟨i, -, rfl⟩
    rw [fillBeat_toNat]
    cases wide with
    | false => exact ⟨by simp only [fillStride, Bool.false_eq_true, if_false]; omega, nofun⟩
    | true => simp only [fillStride, if_true, forall_const]; omega
  · rintro ⟨line, even⟩
    have found :
        (o.toNat % 16 / fillStride wide + 16 / fillStride wide - job.offset.toNat % 16 / fillStride wide) %
          (16 / fillStride wide) < 16 / fillStride wide :=
      Nat.mod_lt _ (by cases wide <;> decide)
    refine ⟨_, List.mem_range.2 found, BitVec.eq_of_toNat_eq ?_⟩
    rw [fillBeat_toNat]
    cases wide with
    | false => simp only [fillStride, Bool.false_eq_true, if_false]; omega
    | true =>
      have even := even rfl
      simp only [fillStride, if_true]
      omega

/-- The plan of a fill begins with the critical beat (R50). -/
theorem fillPlan_head? (wide : Bool) (job : Job) :
    (fillPlan wide job).head? = some (if wide then job.offset &&& 0xFFFE#16 else job.offset) := by
  have first : (fillPlan wide job).head? = some (fillBeat wide job.offset 0) := by cases wide <;> rfl
  rw [first]
  refine congrArg some (BitVec.eq_of_toNat_eq ?_)
  rw [fillBeat_toNat]
  cases wide with
  | false => simp only [fillStride, Bool.false_eq_true, if_false]; omega
  | true => simp only [fillStride, if_true, and_evenMask_toNat]; omega

/-- Behind each beat stands the next one up, or the line's base behind the last of the line (R50). -/
theorem fillBeat_succ (wide : Bool) (offset : Word) (i : Nat) :
    fillBeat wide offset (i + 1) =
      let next := fillBeat wide offset i + BitVec.ofNat 16 (fillStride wide)
      if lineBase next = lineBase offset then next else lineBase offset := by
  have bound := offset.isLt
  have here := fillBeat_toNat wide offset i
  refine BitVec.eq_of_toNat_eq ?_
  rw [fillBeat_toNat]
  dsimp only
  rw [apply_ite BitVec.toNat]
  simp only [lineBase_eq_iff, lineBase_toNat, BitVec.toNat_add, BitVec.toNat_ofNat, here]
  cases wide <;> simp only [fillStride, Bool.false_eq_true, if_false, if_true] <;> split <;> omega

/-! ## The bytes of a fill -/

/-- The offsets of the bytes that the beats of a fill carry are those of its line, each once (R50, R54). -/
theorem fillBytes_count {op : Operation} (fill : op.fillLine.isSome = true) {o : Word}
    (line : lineBase o = lineBase op.job.offset) :
    ((fillPlan op.profile.wide op.job).flatMap op.beatBytes).count o = 1 := by
  cases wide : op.profile.wide with
  | false =>
    have single : op.beatBytes = fun o => [o] := funext fun o => if_neg (by simp [wide])
    rw [single, List.flatMap_singleton']
    exact List.count_eq_one_of_mem (fillPlan_nodup _ _) (mem_fillPlan.2 ⟨line, nofun⟩)
  | true =>
    have pair (o : Word) : op.beatBytes o = [o, o + 1#16] := if_pos ⟨wide, .inl fill⟩
    have even {x : Word} (mem : x ∈ fillPlan true op.job) : x.toNat % 2 = 0 := even_iff.1 ((mem_fillPlan.1 mem).2 rfl)
    refine List.count_eq_one_of_mem (List.nodup_flatMap.2 ⟨fun x _ => ?_, ?_⟩) (List.mem_flatMap.2 ?_)
    · rw [pair]
      simp
    · refine (List.nodup_iff_pairwise_ne.1 (fillPlan_nodup _ _)).imp_of_mem fun {x y} hx hy ne => ?_
      have hx := even hx
      have hy := even hy
      simp only [Function.onFun, pair, List.disjoint_left, List.mem_cons, List.not_mem_nil, or_false]
      bv_omega
    · refine ⟨o &&& 0xFFFE#16, mem_fillPlan.2 ⟨?_, fun _ => ?_⟩, ?_⟩
      · rw [← line, lineBase_eq_iff, and_evenMask_toNat]
        omega
      · rw [even_iff, and_evenMask_toNat]
        omega
      · have rounded := and_evenMask_toNat o
        rw [pair]
        simp only [List.mem_cons, List.not_mem_nil, or_false]
        generalize o &&& 0xFFFE#16 = low at rounded
        bv_omega

end Sys2Proof.Machine

namespace Sys2Proof.Proofs

open Sys2Proof.Machine Sys2Proof.Statements

/-- Settles O24, from the numbers of the beats. -/
theorem fillPlanCoversTheLine : Obligations.FillPlanCoversTheLine := by
  intro wide job plan stride
  have stride_eq : stride = BitVec.ofNat 16 (fillStride wide) := by cases wide <;> rfl
  refine ⟨by cases wide <;> rfl, fillPlan_nodup wide job, fun o => mem_fillPlan, fillPlan_head? wide job, ?_⟩
  intro i x y hx hy
  have beat {i : Nat} {x : Word} (at_i : plan[i]? = some x) : x = fillBeat wide job.offset i := by
    rw [show plan = _ from fillPlan_eq wide job, List.getElem?_map] at at_i
    obtain ⟨k, at_k, rfl⟩ := Option.map_eq_some_iff.1 at_i
    obtain ⟨_, rfl⟩ := List.getElem?_eq_some_iff.1 at_k
    rw [List.getElem_range]
  rw [beat hx, beat hy, stride_eq]
  exact fillBeat_succ wide job.offset i

/-- Settles O30: the bytes collected are those of every beat of the plan, which carries each byte of the line once. -/
theorem finishedFillHasEveryByte : Obligations.FinishedFillHasEveryByte := by
  rintro op ⟨-, -, plan, fillOf, -, -, collected⟩ slot base fill phase clean last i
  have isFill : op.fillLine.isSome = true := by simp [fill]
  obtain ⟨read, line⟩ := fillOf isFill
  obtain rfl : base = lineBase op.job.offset := by cases fill.symm.trans line; rfl
  have taken : op.beatsTaken = op.plan.length := (if_pos ⟨phase, clean⟩).trans last
  rw [collected, if_neg (by simp [read]), taken, List.take_length, plan, if_pos isFill]
  refine fillBytes_count isFill ?_
  have bound := op.job.offset.isLt
  rw [lineBase_eq_iff, BitVec.toNat_add, lineBase_toNat, BitVec.toNat_ofNat]
  omega

end Sys2Proof.Proofs
end

section
/-!
PROOFS. A read of two beats from its first SETUP to its completion. A command run leaves the commands behind it waiting,
so a run is put together from the commands' own statements.
-/

namespace Sys2Proof.Machine

open Sys2Proof.Statements

/-! ## Runs -/

/-- A run of one command is its execution with none waiting. -/
theorem runsTo_single {c : Instr} {s t : State} (only : exec c { s with pending := [] } = .next t) :
    RunsTo [c] s t := by
  have stepped : core.step { s with pending := [c] } = .next t := only
  simp only [RunsTo, List.length_singleton, Host.Core.run, stepped]

/-- The first command of a run is executed with the others waiting, and leaves them waiting. -/
theorem runsTo_cons {c : Instr} {cs : List Instr} {s u t : State} (rest : RunsTo cs u t)
    (first : exec c { s with pending := cs } = .next { u with pending := cs }) : RunsTo (c :: cs) s t := by
  have stepped : core.step { s with pending := c :: cs } = .next { u with pending := cs } := first
  simp only [RunsTo, List.length_cons, Host.Core.run, stepped]
  exact rest

/-- The operation in the RECOVERY of a read beat that has sampled these lanes (R54, R56). -/
def Operation.sampled (op : Operation) (lanes : Word) : Operation :=
  { op with
    phase := .recovery
    phaseClocks := 0
    collected := op.collected ++ op.sampledBytes lanes
    endingFault := none }

/-- The operation in the SETUP of the beat behind the one in progress (R56). -/
def Operation.following (op : Operation) : Operation :=
  { op with index := op.index + 1, phase := .setup, phaseClocks := 0 }

/-- The state in which a read beat has sampled these lanes (R54, R56). -/
def State.sampled (s : State) (op : Operation) (lanes : Word) : State :=
  { s with sequencer := some (op.sampled lanes), bus := s.bus.release }

section ReadBeat

variable {s t : State} {op : Operation} {cs : List Instr}

/-- A read beat on a slot with ready limit 0 and no parity is sampled at the end of its strobe period (R51, R52,
R54). -/
theorem runsTo_readBeat {lanes : Word} {ppar : Bool} (busy : s.sequencer = some op) (phase : op.phase = .setup)
    (read : op.job.kind = .read) (parity : op.profile.parity = .none) (limit : op.profile.readyLimit = 0)
    (rest : RunsTo cs (s.sampled op lanes) t) :
    RunsTo (.setupEnd false :: .strobePeriodEnd false lanes ppar :: cs) s t := by
  have holds : ParityHolds op.profile lanes ppar := by simp only [ParityHolds, parity]
  have sampled : RunsTo (.strobePeriodEnd false lanes ppar :: cs) (s.strobed op) t := by
    refine runsTo_cons rest (congrArg Host.Outcome.next ?_)
    refine (State.strobePeriodEnd_taken (op := { op with phase := .strobe, phaseClocks := 0 }) rfl rfl (.inl limit)
      lanes ppar).trans (State.takeTransfer_sampled read holds)
  have began : State.setupEnd { s with pending := .strobePeriodEnd false lanes ppar :: cs } false = _ :=
    State.setupEnd_strobe busy phase
  exact runsTo_cons sampled (congrArg Host.Outcome.next began)

/-- Behind a successful beat the next one of the plan begins (R56). -/
theorem runsTo_recoveryEnd (busy : s.sequencer = some op) (phase : op.phase = .recovery) (clean : op.endingFault = none)
    (further : op.index < op.plan.length) (rest : RunsTo cs (s.beginBeat op.following) t) :
    RunsTo (.recoveryEnd :: cs) s t := by
  have began : State.recoveryEnd { s with pending := cs } = _ := State.recoveryEnd_next busy phase clean further
  exact runsTo_cons rest (congrArg Host.Outcome.next began)

end ReadBeat

/-! ## The bytes of two beats -/

/-- A beat on an 8-bit slot carries one byte (R54). -/
theorem Operation.sampledBytes_narrow {op : Operation} (narrow : op.profile.wide = false) (lanes : Word) :
    op.sampledBytes lanes = [(op.beatOffset, lanes.extractLsb' 0 8)] :=
  if_neg (by simp [narrow])

/-- The bytes of two neighbouring offsets, read back. -/
theorem Operation.byteAt_two {op : Operation} {o : Word} {x y : Byte}
    (collected : op.collected = [(o, x), (o + 1#16, y)]) : op.byteAt o = x ∧ op.byteAt (o + 1#16) = y := by
  have apart : o ≠ o + 1#16 := by bv_omega
  simp [Operation.byteAt, collected, apart]

/-- A WORD of which both bytes have been collected (R57). -/
theorem collectedNumber_two {op : Operation} {x y : Byte} (word : op.job.width = .word)
    (collected : op.collected = [(op.job.offset, x), (op.job.offset + 1#16, y)]) :
    collectedNumber op = (y ++ x).toNat := by
  obtain ⟨low, high⟩ := Operation.byteAt_two collected
  simp only [collectedNumber, word, low, high, toNat_append_add, Nat.reducePow]

end Sys2Proof.Machine

namespace Sys2Proof.Proofs

open Sys2Proof.Machine Sys2Proof.Statements

/-- Settles O31: two read beats with the end of a recovery between them, then the completion of the access. -/
theorem wordReadOnAnEightBitSlot : Obligations.WordReadOnAnEightBitSlot := by
  intro s op a r b o first second p q busy phase index plan read offset word narrow parity limit access empty clean eq
    readRecord onBus alone
  subst offset
  have further : op.index < op.plan.length := by simp [index, plan]
  have last : op.plan.length ≤ (op.sampled first).following.index := by
    simp [Operation.sampled, Operation.following, index, plan]
  have bytes : ((op.sampled first).following.sampled second).collected =
      [(op.job.offset, first.extractLsb' 0 8), (op.job.offset + 1#16, second.extractLsb' 0 8)] := by
    simp [Operation.sampled, Operation.following, Operation.sampledBytes_narrow, Operation.beatOffset, narrow, index,
      plan, empty]
  obtain ⟨w, number, completed⟩ :=
    (completionOfAnAccess.2
      { ((s.sampled op first).beginBeat (op.sampled first).following).sampled (op.sampled first).following second with
        pending := [] }
      ((op.sampled first).following.sampled second) a r b false rfl rfl access (.inr last) eq onBus alone).2.1
      readRecord rfl rfl
  obtain rfl : w = second.extractLsb' 0 8 ++ first.extractLsb' 0 8 :=
    BitVec.eq_of_toNat_eq (number.trans (collectedNumber_two word bytes))
  refine ⟨_, runsTo_readBeat busy phase read parity limit (runsTo_recoveryEnd rfl rfl rfl further
    (runsTo_readBeat rfl rfl read parity limit (runsTo_single completed))), rfl, rfl, ⟨rfl, rfl, rfl, rfl⟩, ?_, rfl⟩
  show (op.sampled first).following.beatOffset = op.job.offset + 1#16
  simp [Operation.beatOffset, Operation.sampled, Operation.following, index, plan]

end Sys2Proof.Proofs
end

section
/-!
PROOFS. What one event can do to the sequencer and the pins of the P-bus, and what each such event keeps: the operation
on its plan, and the pins on the operation.
-/

namespace Sys2Proof.Machine

open Sys2Proof.Statements

/-! ## The operation on its plan -/

theorem fillPlan_length_pos (wide : Bool) (job : Job) : 1 ≤ (fillPlan wide job).length := by
  cases wide <;> simp [fillPlan]

theorem accessPlan_length_pos (wide : Bool) (job : Job) : 1 ≤ (accessPlan wide job).length := by
  unfold accessPlan
  split <;> exact Nat.succ_pos _

/-- The operation issued for a job follows its plan, of which no beat has been taken (R47, R49, R50). -/
theorem State.issuedOperation_sound (s : State) (job : Job) : (s.issuedOperation job).Sound := by
  have collected : (s.issuedOperation job).collected.map Prod.fst =
      if (s.issuedOperation job).job.isWrite = true then []
      else ((s.issuedOperation job).plan.take (s.issuedOperation job).beatsTaken).flatMap
        (s.issuedOperation job).beatBytes := (ite_self _).symm
  cases fill : s.isFill job with
  | true =>
    obtain ⟨line, plan⟩ := State.issuedOperation_fill fill
    have read : job.isWrite = false := Job.isWrite_eq_false.2 (State.isFill_iff.1 fill).1
    exact ⟨le_rfl, plan ▸ fillPlan_length_pos _ _, by rw [line, plan]; rfl, fun _ => ⟨read, line⟩, fun _ => rfl, nofun,
      collected⟩
  | false =>
    obtain ⟨line, plan⟩ := State.issuedOperation_access fill
    exact ⟨le_rfl, plan ▸ accessPlan_length_pos _ _, by rw [line, plan]; rfl, by simp [line], fun _ => rfl, nofun,
      collected⟩

/-- The bytes that a successful read beat samples are those that the beat carries (R54). -/
theorem Operation.sampledBytes_offsets (op : Operation) (lanes : Word) :
    (op.sampledBytes lanes).map Prod.fst = op.beatBytes op.beatOffset := by
  unfold Operation.sampledBytes Operation.beatBytes
  split <;> rfl

/-- The beat in progress counts as taken in its RECOVERY after a success, and in no other phase (R45). -/
theorem Operation.beatsTaken_eq {op : Operation} (notTaken : op.phase ≠ .recovery ∨ op.endingFault ≠ none) :
    op.beatsTaken = op.index - 1 :=
  if_neg fun c => notTaken.elim (· c.1) (· c.2)

theorem Operation.beatsTaken_success {op : Operation} (phase : op.phase = .recovery) (clean : op.endingFault = none) :
    op.beatsTaken = op.index := if_pos ⟨phase, clean⟩

/-- The beats taken with the beat in progress behind them (R49, R50). -/
theorem Operation.Sound.take_index {op : Operation} (sound : op.Sound) :
    op.plan.take op.index = op.plan.take (op.index - 1) ++ [op.beatOffset] := by
  obtain ⟨first, within, -⟩ := sound
  have inside : op.index - 1 < op.plan.length := by omega
  obtain ⟨k, index⟩ : ∃ k, op.index = k + 1 := ⟨op.index - 1, by omega⟩
  rw [Operation.beatOffset, index, Nat.add_sub_cancel, List.take_add_one, List.getD_eq_getElem?_getD,
    List.getElem?_eq_getElem (by omega)]
  rfl

namespace Operation.Sound

variable {op : Operation}

/-- Another phase of the same beat, with its strobe not ended, leaves the operation on its plan (R51, R52). -/
theorem inPhase (sound : op.Sound) (before : op.phase ≠ .recovery) {phase : Phase} (after : phase ≠ .recovery) :
    Operation.Sound { op with phase := phase, phaseClocks := 0 } := by
  obtain ⟨first, within, plan, fill, clean, fault, collected⟩ := sound
  refine ⟨first, within, plan, fill, fun _ => clean before, fault, ?_⟩
  rw [Operation.beatsTaken_eq (.inl before)] at collected
  rw [Operation.beatsTaken_eq (.inl after)]
  exact collected

/-- The bytes of a successful READ beat join those collected (R54). -/
theorem sampled (sound : op.Sound) (before : op.phase ≠ .recovery) (read : op.job.isWrite = false) (lanes : Word) :
    (op.sampled lanes).Sound := by
  have taken := sound.take_index
  obtain ⟨first, within, plan, fill, -, -, collected⟩ := sound
  rw [if_neg (by simp [read]), Operation.beatsTaken_eq (.inl before)] at collected
  refine ⟨first, within, plan, fill, fun off => absurd rfl off, nofun, ?_⟩
  have joined : (op.sampled lanes).collected.map Prod.fst = (op.plan.take op.index).flatMap op.beatBytes := by
    rw [Operation.sampled, List.map_append, op.sampledBytes_offsets, collected, taken, List.flatMap_append,
      List.flatMap_singleton]
  rw [joined, if_neg (by simp [Operation.sampled, read]), Operation.beatsTaken_success rfl rfl]
  rfl

/-- A WRITE beat that succeeds, and a beat that faults, collect nothing; the fault is the beat's own (R52 to R55). -/
theorem ended (sound : op.Sound) (before : op.phase ≠ .recovery) {fault : Option AccessFault}
    (nothing : fault ≠ none ∨ op.job.isWrite = true) :
    Operation.Sound
      { op with phase := .recovery, phaseClocks := 0, endingFault := fault.map fun f => (f, op.index) } := by
  obtain ⟨first, within, plan, fill, -, -, collected⟩ := sound
  rw [Operation.beatsTaken_eq (.inl before)] at collected
  refine ⟨first, within, plan, fill, fun off => absurd rfl off, ?_, ?_⟩
  · rintro f hf
    obtain ⟨_, -, rfl⟩ := Option.map_eq_some_iff.1 hf
    rfl
  · rcases nothing with faulted | write
    · rw [Operation.beatsTaken_eq (.inr (by simpa using faulted))]
      exact collected
    · exact collected.trans ((if_pos write).trans (if_pos write).symm)

/-- The next beat of the plan begins behind a successful one (R56). -/
theorem next (sound : op.Sound) (phase : op.phase = .recovery) (clean : op.endingFault = none)
    (further : op.index < op.plan.length) : op.following.Sound := by
  obtain ⟨-, -, plan, fill, -, fault, collected⟩ := sound
  refine ⟨Nat.succ_pos _, further, plan, fill, fun _ => clean, by simp [Operation.following, clean], ?_⟩
  rw [Operation.beatsTaken_success phase clean] at collected
  rw [Operation.beatsTaken_eq (.inl (by simp [Operation.following]))]
  exact collected

end Operation.Sound

/-! ## The events of the bus -/

/-- The sequencer, the pins of the P-bus and the level of GRST. -/
structure BusView where
  sequencer : Option Operation
  pins : BusPins
  grst : Bool

/-- The bus as a state has it. -/
def State.busView (s : State) : BusView where
  sequencer := s.sequencer
  pins := s.bus
  grst := s.grst

/-- The pins of a beat before its RECOVERY, with PBRST at this level (R51, R55). -/
def Operation.pins (op : Operation) (pbrst : Bool) : BusPins where
  psel := some op.job.slot
  pstb := decide (op.phase ≠ .setup)
  pa := op.beatOffset
  pwr := op.job.isWrite
  pd := op.writeLanes
  ppar := op.writeLanes.map op.profile.writeParity
  pbrst := pbrst

/-- What one event can do to the bus. -/
inductive BusView.Event : BusView → BusView → Prop
  /-- It stays. -/
  | same (v : BusView) : Event v v
  /-- An operation is issued and its first beat begins (R47, R51). -/
  | issue (v : BusView) (s : State) (job : Job) :
      Event v
        { v with
          sequencer := some (s.issuedOperation job)
          pins := (s.issuedOperation job).pins v.pins.pbrst }
  /-- A bus clock of the phase in progress is counted. -/
  | count (v : BusView) (op : Operation) (clocks : Nat) (busy : v.sequencer = some op) :
      Event v { v with sequencer := some { op with phaseClocks := clocks } }
  /-- The strobe begins (R51). -/
  | strobe (v : BusView) (op : Operation) (busy : v.sequencer = some op) (phase : op.phase = .setup) :
      Event v
        { v with
          sequencer := some { op with phase := .strobe, phaseClocks := 0 }
          pins := { v.pins with pstb := true } }
  /-- The beat waits for ready (R52). -/
  | wait (v : BusView) (op : Operation) (busy : v.sequencer = some op) (phase : op.phase = .strobe) :
      Event v { v with sequencer := some { op with phase := .readyWait, phaseClocks := 0 } }
  /-- A read beat is sampled and its RECOVERY begins (R54, R56). -/
  | sample (v : BusView) (op : Operation) (lanes : Word) (busy : v.sequencer = some op) (phase : op.phase ≠ .recovery)
      (read : op.job.isWrite = false) :
      Event v { v with sequencer := some (op.sampled lanes), pins := v.pins.release }
  /-- A write beat has succeeded, or a beat has faulted, and its RECOVERY begins (R52, R53, R55, R56). -/
  | ended (v : BusView) (op : Operation) (fault : Option AccessFault) (busy : v.sequencer = some op)
      (phase : op.phase ≠ .recovery) (nothing : fault ≠ none ∨ op.job.isWrite = true) :
      Event v
        { v with
          sequencer := some
            { op with phase := .recovery, phaseClocks := 0, endingFault := fault.map fun f => (f, op.index) }
          pins := v.pins.release }
  /-- The next beat begins (R56). -/
  | next (v : BusView) (op : Operation) (busy : v.sequencer = some op) (phase : op.phase = .recovery)
      (clean : op.endingFault = none) (further : op.index < op.plan.length) :
      Event v { v with sequencer := some op.following, pins := op.following.pins v.pins.pbrst }
  /-- The operation completes (R62). -/
  | complete (v : BusView) (op : Operation) (busy : v.sequencer = some op) (phase : op.phase = .recovery) :
      Event v { v with sequencer := none }
  /-- Gateway reset withdraws the operation and asserts PBRST (R65). -/
  | reset (v : BusView) : Event v { sequencer := none, pins := BusPins.reset true, grst := true }
  /-- The end of gateway reset deasserts PBRST (R66). -/
  | resetEnd (v : BusView) : Event v { v with pins := { v.pins with pbrst := false }, grst := false }

/-- The bus is between beats: the sequencer is IDLE or in RECOVERY. -/
def BusView.Between (v : BusView) : Prop := ∀ op, v.sequencer = some op → op.phase = .recovery

/-- The pins follow the sequencer (R51, R55, R56, R65, R66). -/
structure BusView.PinsFollow (v : BusView) : Prop where
  reset : v.pins.pbrst = v.grst
  rest : v.Between → v.pins.AtRest
  drive : ∀ op, v.sequencer = some op → op.phase ≠ .recovery → v.pins = op.pins v.grst

theorem State.pinsSound_iff {s : State} : s.PinsSound ↔ s.busView.PinsFollow := by
  unfold State.PinsSound
  cases busy : s.sequencer with
  | none =>
    have idle {P : Operation → Prop} : ∀ op, s.busView.sequencer = some op → P op := forall_busy_of_idle busy
    exact ⟨fun ⟨reset, rest⟩ => ⟨reset, fun _ => rest, idle⟩, fun follow => ⟨follow.reset, follow.rest idle⟩⟩
  | some op =>
    have alone {P : Operation → Prop} : P op → ∀ other, s.busView.sequencer = some other → P other := forall_busy busy
    by_cases phase : op.phase = .recovery
    · dsimp only
      rw [if_pos phase]
      exact ⟨fun ⟨reset, rest⟩ => ⟨reset, fun _ => rest, alone fun off => absurd phase off⟩,
        fun follow => ⟨follow.reset, follow.rest (alone phase)⟩⟩
    · dsimp only
      rw [if_neg phase]
      exact ⟨fun ⟨reset, drive⟩ => ⟨reset, fun between => absurd (between op busy) phase, alone fun _ => drive⟩,
        fun follow => ⟨follow.reset, follow.drive op busy phase⟩⟩

/-! ## What each event keeps -/

namespace BusView

variable {v v' : BusView} {op : Operation}

/-- The operation in flight follows its plan (R45, R49, R50, R54, R56). -/
theorem Event.keeps_sound (e : v.Event v') (sound : ∀ op ∈ v.sequencer, op.Sound) :
    ∀ op ∈ v'.sequencer, op.Sound := by
  cases e with
  | same => exact sound
  | issue s job =>
    rintro _ ⟨⟩
    exact s.issuedOperation_sound job
  | count op clocks busy =>
    rintro _ ⟨⟩
    exact sound op busy
  | strobe op busy phase =>
    rintro _ ⟨⟩
    exact (sound op busy).inPhase (by simp [phase]) nofun
  | wait op busy phase =>
    rintro _ ⟨⟩
    exact (sound op busy).inPhase (by simp [phase]) nofun
  | sample op lanes busy phase read =>
    rintro _ ⟨⟩
    exact (sound op busy).sampled phase read lanes
  | ended op fault busy phase nothing =>
    rintro _ ⟨⟩
    exact (sound op busy).ended phase nothing
  | next op busy phase clean further =>
    rintro _ ⟨⟩
    exact (sound op busy).next phase clean further
  | complete => rintro _ ⟨⟩
  | reset => rintro _ ⟨⟩
  | resetEnd => exact sound

/-- The pins of a beat before its RECOVERY follow the sequencer. -/
theorem PinsFollow.of_beat (busy : v.sequencer = some op) (phase : op.phase ≠ .recovery)
    (pins : v.pins = op.pins v.grst) : v.PinsFollow where
  reset := by rw [pins]; rfl
  rest := fun between => absurd (between op busy) phase
  drive := forall_busy busy fun _ => pins

/-- Pins at rest follow the sequencer between beats. -/
theorem PinsFollow.of_between (between : v.Between) (reset : v.pins.pbrst = v.grst) (rest : v.pins.AtRest) :
    v.PinsFollow where
  reset := reset
  rest := fun _ => rest
  drive := fun op busy off => absurd (between op busy) off

/-- The bus as the start of a RECOVERY leaves it is at rest (R56). -/
theorem release_atRest (b : BusPins) : b.release.AtRest := ⟨rfl, rfl, rfl, rfl⟩

/-- The pins follow the beat, and PBRST follows GRST (R51, R55, R56, R65, R66). -/
theorem Event.keeps_pins (e : v.Event v') (follow : v.PinsFollow) : v'.PinsFollow := by
  cases e with
  | same => exact follow
  | issue s job => exact .of_beat rfl nofun (congrArg _ follow.reset)
  | count op clocks busy =>
    by_cases phase : op.phase = .recovery
    · exact .of_between (forall_busy rfl phase) follow.reset (follow.rest (forall_busy busy phase))
    · exact .of_beat rfl phase (follow.drive op busy phase)
  | strobe op busy phase =>
    refine .of_beat rfl nofun ?_
    dsimp only
    rw [follow.drive op busy (by simp [phase])]
    rfl
  | wait op busy phase =>
    refine .of_beat rfl nofun ((follow.drive op busy (by simp [phase])).trans ?_)
    simp only [Operation.pins, phase]
    rfl
  | sample op lanes => exact .of_between (forall_busy rfl rfl) follow.reset (release_atRest _)
  | ended op fault => exact .of_between (forall_busy rfl rfl) follow.reset (release_atRest _)
  | next op busy phase clean further => exact .of_beat rfl nofun (congrArg _ follow.reset)
  | complete op busy phase =>
    exact .of_between (forall_busy_of_idle rfl) follow.reset (follow.rest (forall_busy busy phase))
  | reset => exact .of_between (forall_busy_of_idle rfl) rfl ⟨rfl, rfl, rfl, rfl⟩
  | resetEnd =>
    exact
      { reset := rfl
        rest := follow.rest
        drive := fun op busy off => by
          dsimp only
          rw [follow.drive op busy off]
          rfl }

end BusView

end Sys2Proof.Machine
end

section
/-!
PROOFS. What one event can do to the records, the read-ahead entries and the mode words, and what each such event keeps:
no VALID line over a write still to be performed, and only served slots.
-/

namespace Sys2Proof.Machine

open Sys2Proof.Statements

/-! ## Records -/

/-- `r'` is the record `r` at a later moment: its job stays, and it is QUEUED or a write still to be performed only if
`r` was (R1, R13). -/
structure Record.Settles (r' r : Record) : Prop where
  job : r'.toJob = r.toJob
  queued : r'.isQueued = true → r.isQueued = true
  pending : r'.isPendingWrite = true → r.isPendingWrite = true

/-- What is left of a pool whose records have settled. -/
abbrev SettledPool : List Record → List Record → Prop := Thinned Record.Settles fun _ => True

namespace Record

theorem Settles.refl (r : Record) : Settles r r := ⟨rfl, id, id⟩

/-- A change of state settles a record that it does not make QUEUED, and brings on the bus only from QUEUED or the bus
(R2). -/
theorem Settles.of_state {r : Record} {st : RecordState} (queued : st = .queued → r.isQueued = true)
    (onBus : ∀ abandoned, st = .onBus abandoned → r.isQueued = true ∨ r.isOnBus = true) :
    Settles { r with state := st } r where
  job := rfl
  queued := fun q => queued (isQueued_iff.1 q)
  pending := fun p => by
    simp only [isPendingWrite, Bool.and_eq_true, Bool.or_eq_true] at p ⊢
    obtain ⟨write, waits⟩ := p
    refine ⟨write, ?_⟩
    rcases waits with q | b
    · exact .inl (queued (isQueued_iff.1 q))
    · obtain ⟨abandoned, b⟩ := isOnBus_iff.1 b
      exact onBus abandoned b

/-- A record that has been performed, or never will be, is settled. -/
theorem Settles.of_over {r : Record} {st : RecordState} (queued : st ≠ .queued)
    (onBus : ∀ abandoned, st ≠ .onBus abandoned) : Settles { r with state := st } r :=
  .of_state (fun q => absurd q queued) fun abandoned b => absurd b (onBus abandoned)

end Record

theorem SettledPool.refl (l : List Record) : SettledPool l l := Thinned.refl Record.Settles.refl l

/-! ## Read-ahead entries -/

/-- The line that an entry holds VALID. -/
def LineEntry.validTag : LineEntry → Option (SlotId × Word)
  | .valid slot base _ _ => some (slot, base)
  | _ => none

/-- The line that an entry holds VALID, or is FILLING and not poisoned: the lines of R82. -/
def LineEntry.servedTag : LineEntry → Option (SlotId × Word)
  | .valid slot base _ _ => some (slot, base)
  | .filling slot base false => some (slot, base)
  | _ => none

/-- `entry'` is what an event leaves of `entry`, with no line gained. -/
structure LineEntry.Fades (entry' entry : LineEntry) : Prop where
  valid : ∀ tag ∈ entry'.validTag, tag ∈ entry.validTag
  served : ∀ tag ∈ entry'.servedTag, tag ∈ entry.servedTag

/-- Each entry is what an event leaves of it. -/
def FadedLines (entries' entries : Vector LineEntry 8) : Prop := ∀ e : EntryId, (entries'[e]).Fades entries[e]

namespace LineEntry

theorem Fades.refl (entry : LineEntry) : Fades entry entry := ⟨fun _ => id, fun _ => id⟩

theorem Fades.invalid (entry : LineEntry) : Fades .invalid entry := ⟨nofun, nofun⟩

/-- A tick changes a lifetime timer only (R150). -/
theorem tick_fades (entry : LineEntry) : Fades entry.tick entry := by
  cases entry <;> exact ⟨fun _ => id, fun _ => id⟩

/-- The admission of a write leaves the VALID lines but its own (R74). -/
theorem validTag_afterWrite (slot : SlotId) (base : Word) (entry : LineEntry) :
    (entry.afterWrite slot base).validTag = entry.validTag.filter fun tag => tag ≠ (slot, base) := by
  cases entry with
  | invalid => rfl
  | filling s b poisoned => by_cases same : s = slot ∧ b = base <;> simp [afterWrite, validTag, same]
  | valid s b data timer =>
    by_cases same : s = slot ∧ b = base <;> simp [afterWrite, validTag, Option.filter_some, same]

theorem servedTag_afterWrite (slot : SlotId) (base : Word) (entry : LineEntry) :
    (entry.afterWrite slot base).servedTag = entry.servedTag.filter fun tag => tag ≠ (slot, base) := by
  cases entry with
  | invalid => rfl
  | filling s b poisoned =>
    cases poisoned <;> by_cases same : s = slot ∧ b = base <;>
      simp [afterWrite, servedTag, Option.filter_some, same]
  | valid s b data timer =>
    by_cases same : s = slot ∧ b = base <;> simp [afterWrite, servedTag, Option.filter_some, same]

/-- A write of a slot's profile leaves the VALID lines of the other slots (R81). -/
theorem validTag_afterProfile (slot : SlotId) (entry : LineEntry) :
    (entry.afterProfile slot).validTag = entry.validTag.filter fun tag => tag.1 ≠ slot := by
  cases entry with
  | invalid => rfl
  | filling s b poisoned => by_cases same : s = slot <;> simp [afterProfile, validTag, same]
  | valid s b data timer => by_cases same : s = slot <;> simp [afterProfile, validTag, Option.filter_some, same]

theorem servedTag_afterProfile (slot : SlotId) (entry : LineEntry) :
    (entry.afterProfile slot).servedTag = entry.servedTag.filter fun tag => tag.1 ≠ slot := by
  cases entry with
  | invalid => rfl
  | filling s b poisoned =>
    cases poisoned <;> by_cases same : s = slot <;> simp [afterProfile, servedTag, Option.filter_some, same]
  | valid s b data timer => by_cases same : s = slot <;> simp [afterProfile, servedTag, Option.filter_some, same]

/-- An entry whose lines are some of those before has faded. -/
theorem Fades.of_filter {entry' entry : LineEntry} {p : SlotId × Word → Bool}
    (valid : entry'.validTag = entry.validTag.filter p) (served : entry'.servedTag = entry.servedTag.filter p) :
    Fades entry' entry :=
  ⟨fun _ mem => (Option.mem_filter_iff.1 (valid ▸ mem)).1, fun _ mem => (Option.mem_filter_iff.1 (served ▸ mem)).1⟩

theorem afterWrite_fades (slot : SlotId) (base : Word) (entry : LineEntry) : Fades (entry.afterWrite slot base) entry :=
  .of_filter (entry.validTag_afterWrite slot base) (entry.servedTag_afterWrite slot base)

theorem afterProfile_fades (slot : SlotId) (entry : LineEntry) : Fades (entry.afterProfile slot) entry :=
  .of_filter (entry.validTag_afterProfile slot) (entry.servedTag_afterProfile slot)

end LineEntry

theorem FadedLines.refl (entries : Vector LineEntry 8) : FadedLines entries entries := fun _ => .refl _

/-- Every entry changed to what an event leaves of it. -/
theorem FadedLines.change {l : ReadAhead} {f : LineEntry → LineEntry} (fades : ∀ entry, (f entry).Fades entry) :
    FadedLines (l.change f).entries l.entries := by
  intro e
  rw [ReadAhead.change_entry]
  exact fades _

/-- One entry dropped. -/
theorem FadedLines.drop (l : ReadAhead) (e : EntryId) : FadedLines (l.drop e).entries l.entries := by
  intro f
  by_cases same : f = e
  · rw [same, ReadAhead.drop_entry_same]
    exact .invalid _
  · rw [ReadAhead.drop_entry_ne l same]
    exact .refl _

/-! ## The events -/

/-- The records, the read-ahead entries and the mode words of the slots. -/
structure SlotView where
  pool : List Record
  entries : Vector LineEntry 8
  mode : Vector Word 8

/-- The records, entries and mode words as a state has them. -/
def State.slotView (s : State) : SlotView where
  pool := s.pool
  entries := s.lines.entries
  mode := s.cfg.mode

/-- The slot is enabled (R43). -/
def SlotView.Enabled (v : SlotView) (slot : SlotId) : Prop := (v.mode[slot]).getLsbD 0 = true

/-- The slot is prefetchable (R43). -/
def SlotView.Prefetchable (v : SlotView) (slot : SlotId) : Prop := (v.mode[slot]).getLsbD 2 = true

/-- What one event can do to the records, the read-ahead entries and the mode words. -/
inductive SlotView.Event : SlotView → SlotView → Prop
  /-- Records settle and lines go. -/
  | fade {v v' : SlotView} (pool : SettledPool v'.pool v.pool) (lines : FadedLines v'.entries v.entries)
      (mode : v'.mode = v.mode) : Event v v'
  /-- A record is admitted on an enabled slot; no VALID line is left over a write (R7, R10, R74). -/
  | join (v : SlotView) (r : Record) (entries : Vector LineEntry 8) (enabled : v.Enabled r.slot)
      (lines : FadedLines entries v.entries)
      (clear : r.isPendingWrite = true → ∀ e : EntryId, ∀ tag ∈ (entries[e]).validTag,
        r.touchesLine tag.1 tag.2 = false) :
      Event v { v with pool := v.pool ++ [r], entries := entries }
  /-- An entry is reserved for the fill of a QUEUED record's line (R70). -/
  | reserve (v : SlotView) (r : Record) (pool : List Record) (e : EntryId) (base : Word) (here : r ∈ v.pool)
      (queued : r.isQueued = true) (prefetchable : v.Prefetchable r.slot) (settled : SettledPool pool v.pool) :
      Event v { v with pool := pool, entries := v.entries.set e (.filling r.slot base false) }
  /-- A fill is kept, with no write pending into its line (R72). -/
  | fill (v : SlotView) (pool : List Record) (e : EntryId) (slot : SlotId) (base : Word) (data : Vector Byte 16)
      (timer : Nat) (filling : v.entries[e] = .filling slot base false) (settled : SettledPool pool v.pool)
      (free : ∀ r ∈ pool, r.isPendingWrite = true → r.touchesLine slot base = false) :
      Event v { v with pool := pool, entries := v.entries.set e (.valid slot base data timer) }
  /-- A mode word is written: the slot's lines are cleared, and its QUEUED records completed where it is disabled (R21,
  R81). -/
  | mode (v : SlotView) (slot : SlotId) (word : Word) (pool : List Record) (entries : Vector LineEntry 8)
      (settled : SettledPool pool v.pool)
      (stays : ∀ r ∈ pool, r.isQueued = true → r.slot = slot → word.getLsbD 0 = true)
      (cleared : ∀ e : EntryId, entries[e] = (v.entries[e]).afterProfile slot) :
      Event v { pool := pool, entries := entries, mode := v.mode.set slot word }
  /-- Gateway reset (R24, R83). -/
  | reset (v : SlotView) (mode : Vector Word 8) :
      Event v { pool := [], entries := ReadAhead.reset.entries, mode := mode }

namespace SlotView

/-- No VALID line holds a byte that a write still to be performed targets (R72). -/
def Fresh (v : SlotView) : Prop :=
  ∀ e : EntryId, ∀ tag ∈ (v.entries[e]).validTag, ∀ r ∈ v.pool,
    r.isPendingWrite = true → r.touchesLine tag.1 tag.2 = false

/-- Lines belong to enabled and prefetchable slots, QUEUED records to enabled ones (R47, R82). -/
structure Served (v : SlotView) : Prop where
  lines : ∀ e : EntryId, ∀ tag ∈ (v.entries[e]).servedTag, v.Enabled tag.1 ∧ v.Prefetchable tag.1
  records : ∀ r ∈ v.pool, r.isQueued = true → v.Enabled r.slot

end SlotView

theorem State.noStaleLine_iff {s : State} : s.NoStaleLine ↔ s.slotView.Fresh := by
  refine forall_congr' fun e => ?_
  show _ ↔ ∀ tag ∈ (s.entry e).validTag, ∀ r ∈ s.pool, r.isPendingWrite = true → r.touchesLine tag.1 tag.2 = false
  cases s.entry e <;> simp [LineEntry.validTag, State.lineQuery]

theorem State.servedSlots_iff {s : State} : s.ServedSlots ↔ s.slotView.Served := by
  have parts : s.slotView.Served ↔
      (∀ e : EntryId, ∀ tag ∈ (s.entry e).servedTag, s.slotView.Enabled tag.1 ∧ s.slotView.Prefetchable tag.1) ∧
        ∀ r ∈ s.pool, r.isQueued = true → s.cfg.enabled r.slot = true :=
    ⟨fun served => ⟨served.lines, served.records⟩, fun ⟨lines, records⟩ => ⟨lines, records⟩⟩
  rw [parts]
  refine and_congr_left fun _ => forall_congr' fun e => ?_
  rcases s.entry e with _ | ⟨slot, base, _ | _⟩ | ⟨slot, base, data, timer⟩ <;> simp [LineEntry.servedTag] <;> rfl

/-! ## What each event keeps -/

namespace SlotView

variable {v v' : SlotView}

/-- An entry set to a line over which no write stands leaves the lines fresh. -/
theorem Fresh.set (fresh : v.Fresh) {e : EntryId} {entry : LineEntry}
    (free : ∀ tag ∈ entry.validTag, ∀ r ∈ v.pool, r.isPendingWrite = true → r.touchesLine tag.1 tag.2 = false) :
    Fresh { v with entries := v.entries.set e entry } := by
  intro f tag valid
  dsimp only at valid
  rw [getElem_set_fin] at valid
  split at valid
  · exact free tag valid
  · exact fresh f tag valid

/-- An entry set to a line of a slot that serves it leaves the lines served. -/
theorem Served.set (served : v.Served) {e : EntryId} {entry : LineEntry}
    (serves : ∀ tag ∈ entry.servedTag, v.Enabled tag.1 ∧ v.Prefetchable tag.1) :
    Served { v with entries := v.entries.set e entry } := by
  refine ⟨fun f tag mem => ?_, served.records⟩
  dsimp only at mem
  rw [getElem_set_fin] at mem
  split at mem
  · exact serves tag mem
  · exact served.lines f tag mem

/-- Settled records and faded lines stay fresh (R72). -/
theorem Fresh.faded (fresh : v.Fresh) (pool : SettledPool v'.pool v.pool) (lines : FadedLines v'.entries v.entries) :
    v'.Fresh := by
  intro e tag valid r' mem pending
  obtain ⟨r, here, settled⟩ := pool.exists_of_mem mem
  rw [settled.job]
  exact fresh e tag ((lines e).valid tag valid) r here (settled.pending pending)

/-- Settled records and faded lines stay on served slots, under the same mode words (R82). -/
theorem Served.faded (served : v.Served) (pool : SettledPool v'.pool v.pool) (lines : FadedLines v'.entries v.entries)
    (mode : v'.mode = v.mode) : v'.Served := by
  refine ⟨fun e tag mem => ?_, fun r' mem queued => ?_⟩
  · rw [Enabled, Prefetchable, mode]
    exact served.lines e tag ((lines e).served tag mem)
  · obtain ⟨r, here, settled⟩ := pool.exists_of_mem mem
    rw [settled.job, Enabled, mode]
    exact served.records r here (settled.queued queued)

/-- No event brings a VALID line and a write still to be performed together (R72). -/
theorem Event.keeps_fresh (e : v.Event v') (fresh : v.Fresh) : v'.Fresh := by
  cases e with
  | fade pool lines mode => exact fresh.faded pool lines
  | join r entries enabled lines clear =>
    intro e tag valid x mem pending
    rcases List.mem_append.1 mem with old | new
    · exact fresh e tag ((lines e).valid tag valid) x old pending
    · obtain rfl := List.mem_singleton.1 new
      exact clear pending e tag valid
  | reserve r pool e base here queued prefetchable settled =>
    refine (fresh.faded (v' := { v with pool := pool }) settled (.refl _)).set ?_
    nofun
  | fill pool e slot base data timer filling settled free =>
    refine (fresh.faded (v' := { v with pool := pool }) settled (.refl _)).set ?_
    rintro _ ⟨⟩
    exact free
  | mode slot word pool entries settled stays cleared =>
    refine fresh.faded settled fun e => ?_
    rw [cleared e]
    exact LineEntry.afterProfile_fades slot _
  | reset mode => exact fun _ _ _ _ mem => absurd mem List.not_mem_nil

/-- No event leaves a line on a slot that is not enabled and prefetchable, or a QUEUED record on one that is not enabled
(R47, R82). -/
theorem Event.keeps_served (e : v.Event v') (served : v.Served) : v'.Served := by
  cases e with
  | fade pool lines mode => exact served.faded pool lines mode
  | join r entries enabled lines clear =>
    refine ⟨fun e tag mem => served.lines e tag ((lines e).served tag mem), fun x mem queued => ?_⟩
    rcases List.mem_append.1 mem with old | new
    · exact served.records x old queued
    · obtain rfl := List.mem_singleton.1 new
      exact enabled
  | reserve r pool e base here queued prefetchable settled =>
    refine (served.faded (v' := { v with pool := pool }) settled (.refl _) rfl).set ?_
    rintro _ ⟨⟩
    exact ⟨served.records r here queued, prefetchable⟩
  | fill pool e slot base data timer filling settled free =>
    refine (served.faded (v' := { v with pool := pool }) settled (.refl _) rfl).set ?_
    rintro _ ⟨⟩
    exact served.lines e (slot, base) (by rw [filling]; rfl)
  | mode slot word pool entries settled stays cleared =>
    have other {x : SlotId} (ne : x ≠ slot) : (v.mode.set slot word)[x] = v.mode[x] := by
      rw [getElem_set_fin, if_neg ne]
    refine ⟨fun e tag mem => ?_, fun r' mem queued => ?_⟩
    · dsimp only at mem
      rw [cleared, LineEntry.servedTag_afterProfile, Option.mem_filter_iff] at mem
      obtain ⟨old, ne⟩ := mem
      rw [Enabled, Prefetchable, other (by simpa using ne)]
      exact served.lines e tag old
    · by_cases same : r'.slot = slot
      · rw [Enabled, same, getElem_set_fin, if_pos rfl]
        exact stays r' mem queued same
      · obtain ⟨r, here, settled⟩ := settled.exists_of_mem mem
        rw [Enabled, other same, settled.job]
        exact served.records r here (settled.queued queued)
  | reset mode =>
    have invalid (e : EntryId) : ReadAhead.reset.entries[e] = .invalid := by simp [ReadAhead.reset]
    refine ⟨fun e tag mem => ?_, nofun⟩
    rw [invalid e] at mem
    cases mem

end SlotView

end Sys2Proof.Machine
end

section
/-!
PROOFS. The two kinds of event together, and which of them each operation of the hosts, the other units, the timers and
the resets is.
-/

namespace Sys2Proof.Machine

open Sys2Proof.Statements

/-! ## Events of both -/

/-- One event at the bus and at the records, lines and mode words. -/
structure PathEvent (s t : State) : Prop where
  bus : s.busView.Event t.busView
  slots : s.slotView.Event t.slotView

/-- A chain of such events. -/
abbrev PathEvents : State → State → Prop := Relation.ReflTransGen PathEvent

namespace PathEvent

variable {s t : State}

/-- An event that reaches only the bus. -/
theorem of_bus (bus : s.busView.Event t.busView) (slots : t.slotView = s.slotView) : PathEvent s t :=
  ⟨bus, slots ▸ .fade (.refl _) (.refl _) rfl⟩

/-- An event that reaches only the records, lines and mode words. -/
theorem of_slots (bus : t.busView = s.busView) (slots : s.slotView.Event t.slotView) : PathEvent s t :=
  ⟨bus ▸ .same _, slots⟩

/-- An event that reaches neither. -/
theorem of_same (bus : t.busView = s.busView) (slots : t.slotView = s.slotView) : PathEvent s t :=
  .of_bus (bus ▸ .same _) slots

/-- An event that settles records and lets lines go. -/
theorem of_fade (bus : t.busView = s.busView) (pool : SettledPool t.pool s.pool)
    (lines : FadedLines t.lines.entries s.lines.entries) (mode : t.cfg.mode = s.cfg.mode) : PathEvent s t :=
  .of_slots bus (.fade pool lines mode)

/-- An event that settles records alone. -/
theorem of_settled (bus : t.busView = s.busView) (pool : SettledPool t.pool s.pool)
    (lines : t.lines.entries = s.lines.entries) (mode : t.cfg.mode = s.cfg.mode) : PathEvent s t :=
  .of_fade bus pool (lines ▸ .refl _) mode

protected theorem refl (s : State) : PathEvent s s := .of_same rfl rfl

end PathEvent

/-! ## Slot requests -/

/-- The target bytes of an aligned access lie in one line (R3). -/
theorem lineBase_of_target {offset o : Word} {width : Width} (aligned : ¬ (width = .word ∧ offset.getLsbD 0 = true))
    (target : o ∈ targetBytes offset width) : lineBase o = lineBase offset := by
  cases width with
  | byte => rw [List.mem_singleton.1 target]
  | word =>
    have even : offset.toNat % 2 = 0 := even_iff.1 (by simpa using aligned)
    have bound := offset.isLt
    rcases List.mem_cons.1 target with rfl | second
    · rfl
    · rw [List.mem_singleton.1 second, lineBase_eq_iff, BitVec.toNat_add]
      show (_ + 1) % _ / _ = _
      omega

/-- An aligned access touches its own line and no other (R3). -/
theorem Job.touchesLine_eq_false {job : Job} {tag : SlotId × Word}
    (aligned : ¬ (job.width = .word ∧ job.offset.getLsbD 0 = true)) (other : tag ≠ (job.slot, lineBase job.offset)) :
    job.touchesLine tag.1 tag.2 = false := by
  refine Bool.eq_false_iff.2 fun touches => other ?_
  simp only [touchesLine, Bool.and_eq_true, beq_iff_eq, List.any_eq_true] at touches
  obtain ⟨slot, o, target, base⟩ := touches
  exact Prod.ext slot.symm (base.symm.trans (lineBase_of_target aligned target))

section Requests

variable (s : State) (h : HostId)

theorem State.slotWrite_path (slot : SlotId) (offset : Word) (width : Width) (data : Word) :
    PathEvent s (s.slotWrite h slot offset width data).1 := by
  by_cases misaligned : width = .word ∧ offset.getLsbD 0 = true
  · rw [State.slotWrite_misaligned misaligned]
    exact .refl s
  by_cases enabled : s.cfg.enabled slot = true
  · rcases s.slotWrite_cases h slot offset width data with ⟨_, e⟩ | ⟨_, -, e⟩ | ⟨-, -, e⟩ <;> rw [e]
    · exact .refl s
    · exact .refl s
    · refine .of_slots rfl (.join s.slotView _ _ enabled (.change (LineEntry.afterWrite_fades slot _)) ?_)
      intro _ e tag valid
      change tag ∈ ((s.lines.change (LineEntry.afterWrite slot (lineBase offset))).entries[e]).validTag at valid
      rw [ReadAhead.change_entry, LineEntry.validTag_afterWrite, Option.mem_filter_iff] at valid
      exact Job.touchesLine_eq_false misaligned (by simpa using valid.2)
  · rw [State.slotWrite_off misaligned enabled]
    exact .refl s

theorem State.slotReadUnmatched_path (slot : SlotId) (offset : Word) (width : Width) :
    PathEvent s (s.slotReadUnmatched h slot offset width).1 := by
  by_cases misaligned : width = .word ∧ offset.getLsbD 0 = true
  · rw [State.slotReadUnmatched_misaligned misaligned]
    exact .refl s
  by_cases enabled : s.cfg.enabled slot = true
  · rcases s.slotReadUnmatched_cases h slot offset width with ⟨_, e⟩ | ⟨_, e⟩ | ⟨_, -, e⟩ | ⟨-, -, e⟩ <;> rw [e]
    · exact .refl s
    · exact .of_same rfl rfl
    · exact .refl s
    · exact .of_slots rfl (.join s.slotView _ _ enabled (.refl _) nofun)
  · rw [State.slotReadUnmatched_off misaligned enabled]
    exact .refl s

theorem State.slotRead_path (slot : SlotId) (offset : Word) (width : Width) :
    PathEvent s (s.slotRead h slot offset width).1 := by
  rcases s.slotRead_cases h slot offset width with ⟨_, _, _, -, -, e⟩ | ⟨_, -, -, e⟩ | ⟨-, e⟩ <;> rw [e]
  · exact .of_settled rfl (.eraseP Record.Settles.refl (fun _ _ => trivial) s.pool) rfl rfl
  · exact .refl s
  · exact s.slotReadUnmatched_path h slot offset width

/-! ## Cancel, port reset and slot disable -/

theorem Record.afterCancel_settles {h : HostId} {r r' : Record} (kept : r.afterCancel h = some r') :
    Record.Settles r' r := by
  unfold Record.afterCancel at kept
  split at kept
  · split at kept
    · cases kept
    · cases kept
    · next onBus =>
      cases kept
      exact .of_state nofun fun _ _ => .inr (by simp [onBus])
    · cases kept
      exact .refl r
  · cases kept
    exact .refl r

theorem Record.afterPortReset_settles {h : HostId} {r r' : Record} (kept : r.afterPortReset h = some r') :
    Record.Settles r' r := by
  unfold Record.afterPortReset at kept
  split at kept
  · cases kept
  · exact Record.afterCancel_settles kept

theorem State.cancelReads_path : PathEvent s (s.cancelReads h) :=
  .of_settled rfl (.filterMap (fun _ _ _ => Record.afterCancel_settles) fun _ _ _ => trivial) rfl rfl

theorem State.afterDisable_settles (slot : SlotId) (r : Record) : (s.afterDisable slot r).Settles r := by
  unfold State.afterDisable
  split
  · split <;> exact .of_over nofun nofun
  · exact .refl r

/-- A slot disable leaves no QUEUED record of the slot (R21). -/
theorem State.afterDisable_notQueued {s : State} {slot : SlotId} {r : Record}
    (queued : (s.afterDisable slot r).isQueued = true) : (s.afterDisable slot r).slot ≠ slot := by
  unfold State.afterDisable at queued ⊢
  split at queued
  · split at queued <;> cases queued
  · next other =>
    rw [if_neg other]
    exact fun same => other ⟨same, queued⟩

/-! ## Configuration writes -/

/-- An accepted write of a mode word clears the slot's lines, and completes its QUEUED records where it disables the
slot (R21, R81, R142). -/
theorem State.acceptWrite_mode_path (slot : SlotId) (v : Word) : PathEvent s (s.acceptWrite h (.mode slot) v) := by
  have cleared (e : EntryId) : (s.lines.change (LineEntry.afterProfile slot)).entries[e] =
      (s.lines.entries[e]).afterProfile slot := ReadAhead.change_entry _ _ e
  have enabled : (s.cfg.store v (.mode slot)).enabled slot = v.getLsbD 0 := by
    simp [ConfigSet.enabled, ConfigSet.store]
  unfold State.acceptWrite State.inform
  dsimp only
  split
  · next on =>
    have on : v.getLsbD 0 = true := enabled.symm.trans on
    exact .of_slots rfl (.mode s.slotView slot v _ _ (.refl _) (fun _ _ _ _ => on) cleared)
  · refine .of_slots rfl (.mode s.slotView slot v _ _ (.map (State.afterDisable_settles _ slot) _) ?_ cleared)
    intro r' mem queued same
    obtain ⟨r, -, rfl⟩ := List.mem_map.1 mem
    exact absurd same (State.afterDisable_notQueued queued)

theorem State.acceptWrite_path (item : Item) (v : Word) : PathEvent s (s.acceptWrite h item v) := by
  cases item with
  | mode slot => exact s.acceptWrite_mode_path h slot v
  | timingA slot => exact .of_fade rfl (.refl _) (.change (LineEntry.afterProfile_fades slot)) rfl
  | timingB slot => exact .of_fade rfl (.refl _) (.change (LineEntry.afterProfile_fades slot)) rfl
  | _ => exact .of_same rfl rfl

theorem State.cfgDataWrite_path (v : Word) : PathEvent s (s.cfgDataWrite h v).1 := by
  unfold State.cfgDataWrite
  split
  · exact .refl s
  · split
    · exact s.acceptWrite_path h _ v
    · exact .refl s

theorem State.cfgCdataWrite_path (v : Word) : PathEvent s (s.cfgCdataWrite h v).1 := by
  unfold State.cfgCdataWrite
  split
  · exact .refl s
  · split
    · exact .refl s
    · split
      · exact .refl s
      · exact s.acceptWrite_path h _ v

/-! ## Registers -/

theorem State.claim_path (n : SourceId) : PathEvent s (s.claim h n).1 := by
  unfold State.claim
  dsimp only
  split <;> exact .of_same rfl rfl

theorem State.release_path (value : Word) : PathEvent s (s.release h value).1 := by
  unfold State.release
  split
  · exact .refl s
  · split <;> exact .of_same rfl rfl

theorem State.rearm_path (value : Word) : PathEvent s (s.rearm h value).1 := by
  unfold State.rearm
  split
  · exact .refl s
  · split <;> exact .of_same rfl rfl

theorem State.pop_path : PathEvent s (s.pop h).1 := by
  unfold State.pop
  split <;> exact .of_same rfl rfl

theorem State.writeThreshold_path (value : Word) : PathEvent s (s.writeThreshold h value).1 := by
  unfold State.writeThreshold
  split <;> exact .of_same rfl rfl

theorem State.readReg_path (reg : ControlReg) : PathEvent s (s.readReg h reg).1 := by
  cases reg with
  | claim n => exact s.claim_path h n
  | _ => exact .of_same rfl rfl

theorem State.writeReg_path (value : Word) (reg : ControlReg) : PathEvent s (s.writeReg h value reg).1 := by
  cases reg with
  | noticePop => exact s.pop_path h
  | threshold => exact s.writeThreshold_path h value
  | cancelReads => exact s.cancelReads_path h
  | release => exact s.release_path h value
  | rearm => exact s.rearm_path h value
  | cfgData => exact s.cfgDataWrite_path h value
  | cfgCdata => exact s.cfgCdataWrite_path h value
  | _ => exact .of_same rfl rfl

theorem State.access_path (a : Access) : PathEvent s (s.access h a).1 := by
  cases a with
  | slotRead slot offset width => exact s.slotRead_path h slot offset width
  | slotWrite slot offset width data => exact s.slotWrite_path h slot offset width data
  | readReg reg => exact s.readReg_path h reg
  | writeReg reg value => exact s.writeReg_path h value reg
  | badAddress => exact .refl s

/-- The taking of a request adds nothing to what its owner does, and a DOWN port takes none (R162, R167). -/
theorem State.take_path {s : State} {h : HostId} {f : State → State × Answer} (e : PathEvent s (f s).1) :
    PathEvents s (s.take h f) := by
  unfold State.take
  split
  · exact .single ⟨e.bus, e.slots⟩
  · exact .single (.of_same rfl rfl)

end Requests

/-! ## Notices, attention lines, timers and resets -/

theorem State.placeDelivery_path (s : State) (h : HostId) (d : Delivery) : PathEvent s (s.placeDelivery h d) := by
  cases d with
  | failed r => exact .of_settled rfl (.eraseP Record.Settles.refl (fun _ _ => trivial) s.pool) rfl rfl
  | orphaned r => exact .of_settled rfl (.eraseP Record.Settles.refl (fun _ _ => trivial) s.pool) rfl rfl
  | _ => exact .of_same rfl rfl

theorem State.placeUpTo_path (s : State) (h : HostId) (room : Nat) : PathEvents s (s.placeUpTo h room) := by
  induction room generalizing s with
  | zero => exact .refl
  | succ room ih =>
    unfold State.placeUpTo
    split
    · exact .refl
    · exact .head (s.placeDelivery_path h _) (ih _)

theorem State.placementPass_path (s : State) (h : HostId) : PathEvents s (s.placementPass h) := by
  unfold State.placementPass
  split
  · exact s.placeUpTo_path h _
  · exact .refl

theorem State.attentionLine_path (s : State) (n : SourceId) (level : Bool) : PathEvent s (s.attentionLine n level) := by
  unfold State.attentionLine
  split
  · exact .refl s
  · dsimp only
    split
    · exact .of_same rfl rfl
    · split <;> exact .of_same rfl rfl

theorem Record.orphaned_settles (r : Record) : Record.Settles { r with state := .orphaned } r := .of_over nofun nofun

theorem State.collectionExpiry_path (s : State) (h : HostId) (slot : SlotId) (offset : Word) (width : Width) :
    PathEvent s (s.collectionExpiry h slot offset width) :=
  .of_settled rfl (.updateFirst Record.Settles.refl (fun r _ => r.orphaned_settles) s.pool) rfl rfl

theorem State.lifetimeExpiry_path (s : State) (e : EntryId) : PathEvent s (s.lifetimeExpiry e) := by
  unfold State.lifetimeExpiry
  split
  · exact .of_fade rfl (.refl _) (.drop s.lines e) rfl
  · exact .refl s

theorem Record.expireDue_settles (r : Record) : Record.Settles r.expireDue r := by
  rcases r.expireDue_cases with ⟨_, -, e⟩ | e <;> rw [e]
  · exact r.orphaned_settles
  · exact .refl r

theorem Record.tick_settles (r : Record) : Record.Settles r.tick r := by
  unfold Record.tick
  split
  · exact .of_over nofun nofun
  · exact .refl r

theorem State.expireDue_path (s : State) : PathEvent s s.expireDue := by
  refine .of_fade rfl (.map Record.expireDue_settles s.pool) (fun e => ?_) rfl
  have here : (s.expireDue.lines.entries[e]).Fades s.lines.entries[e] ↔ (s.expireDue.entry e).Fades (s.entry e) := .rfl
  rw [here, State.entry_expireDue]
  split
  · exact .invalid _
  · exact .refl _

theorem State.tick_path (s : State) : PathEvent s s.tick := by
  refine .of_fade rfl (.map Record.tick_settles s.pool) (fun e => ?_) rfl
  have here : (s.tick.lines.entries[e]).Fades s.lines.entries[e] ↔ (s.tick.entry e).Fades (s.entry e) := .rfl
  rw [here, State.entry_tick]
  exact LineEntry.tick_fades _

theorem State.tickEvent_path (s : State) : PathEvents s s.tickEvent := by
  unfold State.tickEvent
  split
  · exact .refl
  · exact .tail (.single s.expireDue_path) (State.tick_path _)

theorem State.divide_path (s : State) : PathEvent s s.divide := by
  unfold State.divide
  split
  · exact s.tick_path
  · exact .of_same rfl rfl

theorem State.assertPrst_path (s : State) (h : HostId) : PathEvent s (s.assertPrst h) := by
  unfold State.assertPrst
  split
  · exact .refl s
  · dsimp only
    split
    · exact .of_same rfl rfl
    · exact .of_settled rfl (.filterMap (fun _ _ _ => Record.afterPortReset_settles) fun _ _ _ => trivial) rfl rfl

theorem State.deassertPrst_path (s : State) (h : HostId) : PathEvent s (s.deassertPrst h) := by
  unfold State.deassertPrst
  split
  · dsimp only
    split <;> exact .of_same rfl rfl
  · exact .refl s

theorem State.gatewayReset_path (s : State) : PathEvent s s.gatewayReset :=
  ⟨.reset s.busView, .reset s.slotView ConfigSet.reset.mode⟩

theorem State.gatewayResetEnd_path (s : State) : PathEvents s s.gatewayResetEnd := by
  have returns (hosts : List HostId) (u : State) :
      PathEvents u (hosts.foldl (fun u h => if (u.port h).prst then u else u.returnToUp h) u) := by
    induction hosts generalizing u with
    | nil => exact .refl
    | cons h hosts ih =>
      refine .head ?_ (ih _)
      dsimp only
      split <;> exact .of_same rfl rfl
  unfold State.gatewayResetEnd
  split
  · refine .head ?_ (returns allHosts _)
    exact .of_bus (.resetEnd s.busView) rfl
  · exact .refl

end Sys2Proof.Machine
end

section
/-!
PROOFS. The sequencer's own events; then every command as a chain of events, and every step as a chain of commands'
effects, so that what each event keeps every step keeps.
-/

namespace Sys2Proof.Machine

open Sys2Proof.Statements

/-! ## The beat -/

/-- A write beat that succeeds, and a beat that faults, end without bytes (R52, R53, R55). -/
theorem State.enterRecovery_path {s : State} {op : Operation} {fault : Option AccessFault}
    (busy : s.sequencer = some op) (phase : op.phase ≠ .recovery) (nothing : fault ≠ none ∨ op.job.isWrite = true) :
    PathEvent s (s.enterRecovery op fault) :=
  .of_bus (.ended s.busView op fault busy phase nothing) rfl

theorem State.takeTransfer_path {s : State} {op : Operation} (busy : s.sequencer = some op)
    (phase : op.phase ≠ .recovery) (lanes : Word) (ppar : Bool) : PathEvent s (s.takeTransfer op lanes ppar) := by
  rcases s.takeTransfer_cases op lanes ppar with ⟨write, e⟩ | ⟨read, -, e⟩ | ⟨-, -, e⟩ <;> rw [e]
  · exact State.enterRecovery_path busy phase (.inr write)
  · exact .of_bus (.sample s.busView op lanes busy phase read) rfl
  · exact State.enterRecovery_path busy phase (.inl nofun)

theorem State.setupEnd_path (s : State) (pdcl : Bool) : PathEvent s (s.setupEnd pdcl) := by
  unfold State.setupEnd
  split
  · next op busy =>
    split
    · next phase =>
      split
      · exact State.enterRecovery_path busy (by simp [phase]) (.inl nofun)
      · exact .of_bus (.strobe s.busView op busy phase) rfl
    · exact .refl s
  · exact .refl s

theorem State.strobePeriodEnd_path (s : State) (prdy : Bool) (lanes : Word) (ppar : Bool) :
    PathEvent s (s.strobePeriodEnd prdy lanes ppar) := by
  unfold State.strobePeriodEnd
  split
  · next op busy =>
    split
    · next phase =>
      split
      · exact State.takeTransfer_path busy (by simp [phase]) lanes ppar
      · exact .of_bus (.wait s.busView op busy phase) rfl
    · exact .refl s
  · exact .refl s

theorem State.ready_path (s : State) (lanes : Word) (ppar : Bool) : PathEvent s (s.ready lanes ppar) := by
  unfold State.ready
  split
  · next op busy =>
    split
    · next phase => exact State.takeTransfer_path busy (by simp [phase]) lanes ppar
    · exact .refl s
  · exact .refl s

theorem State.decline_path (s : State) : PathEvent s s.decline := by
  unfold State.decline
  split
  · next op busy =>
    split
    · next phase =>
      refine State.enterRecovery_path busy (fun recovery => ?_) (.inl nofun)
      simp [recovery] at phase
    · exact .refl s
  · exact .refl s

theorem State.readyLimitExpiry_path (s : State) : PathEvent s s.readyLimitExpiry := by
  unfold State.readyLimitExpiry
  split
  · next op busy =>
    split
    · next phase => exact State.enterRecovery_path busy (by simp [phase]) (.inl nofun)
    · exact .refl s
  · exact .refl s

theorem State.recoveryEnd_path (s : State) : PathEvent s s.recoveryEnd := by
  unfold State.recoveryEnd
  split
  · next op busy =>
    split
    · next due =>
      obtain ⟨phase, notLast⟩ := due
      obtain ⟨clean, further⟩ : op.endingFault = none ∧ op.index < op.plan.length := by
        simpa [Operation.lastBeat_iff] using notLast
      exact .of_bus (.next s.busView op busy phase clean further) rfl
    · exact .refl s
  · exact .refl s

/-! ## Completion and selection -/

theorem State.afterCompletion_settles {s : State} {readOutcome : ReadResult}
    {writeOutcome : Option (AccessFault × Option Bool)} {r r' : Record}
    (kept : s.afterCompletion readOutcome writeOutcome r = some r') : Record.Settles r' r := by
  rcases State.afterCompletion_cases kept with ⟨-, rfl⟩ | ⟨-, -, _, -, rfl⟩ | ⟨-, -, rfl⟩
  · exact .refl _
  · exact .of_over nofun nofun
  · exact .of_over nofun nofun

theorem State.completeRecord_settles (s : State) (op : Operation) : SettledPool (s.completeRecord op).pool s.pool :=
  .filterMap (fun _ _ _ => State.afterCompletion_settles) fun _ _ _ => trivial

/-- What a completion leaves of records and lines: the line of the fill is VALID only with no write pending into it
(R14, R15, R62, R72). -/
theorem State.completed_slots (s : State) (op : Operation) :
    s.slotView.Event ((s.completeRecord op).completeFill op).slotView := by
  have settled := s.completeRecord_settles op
  unfold State.completeFill
  split
  · exact .fade settled (.refl _) rfl
  · next slot base _ =>
    rcases (s.completeRecord op).fillEnd_cases slot base (op.filledBytes base) with
      ⟨-, e⟩ | ⟨f, -, e⟩ | ⟨f, data, found, -, clean, free, -, e⟩ <;> rw [e]
    · exact .fade settled (.refl _) rfl
    · exact .fade settled (.drop s.lines f) rfl
    · obtain ⟨poisoned, filling⟩ := State.fillingEntry_eq_some found
      rw [filling] at clean
      cases clean
      refine .fill s.slotView _ f slot base data _ filling settled fun r mem pending => ?_
      simpa [pending] using List.any_eq_false.1 free r mem

theorem State.completeFill_busView (s : State) (op : Operation) : (s.completeFill op).busView = s.busView := by
  unfold State.completeFill
  split
  · rfl
  · rw [State.fillEnd_eq]
    rfl

theorem State.completion_path (s : State) : PathEvent s s.completion := by
  unfold State.completion
  split
  · next op busy =>
    split
    · next due =>
      refine ⟨?_, s.completed_slots op⟩
      have view := State.completeFill_busView (s.completeRecord op) op
      have idle : State.busView { (s.completeRecord op).completeFill op with sequencer := none } =
          { s.busView with sequencer := none } := congrArg (fun v : BusView => { v with sequencer := none }) view
      rw [idle]
      exact .complete s.busView op busy due.1
    · exact .refl s
  · exact .refl s

/-- The oldest QUEUED record of a host, taken or completed, has settled. -/
theorem State.setOldestQueued_settles (s : State) (h : HostId) {st : RecordState} (taken : st ≠ .queued) :
    SettledPool (s.setOldestQueued h st).pool s.pool := by
  refine .updateFirst Record.Settles.refl (fun r here => ?_) s.pool
  have queued : r.isQueued = true := (Bool.and_eq_true _ _ ▸ here).2
  exact .of_state (fun q => absurd q taken) fun _ _ => .inl queued

/-- An issue begins the operation's first beat (R47, R51). -/
theorem State.issue_busView (s : State) (job : Job) :
    (s.issue job).busView =
      { s.busView with
        sequencer := some (s.issuedOperation job)
        pins := (s.issuedOperation job).pins s.bus.pbrst } := by
  unfold State.issue
  dsimp only
  split <;> rfl

theorem State.takeRecord_path {s : State} {h : HostId} {r : Record}
    (found : s.pool.find? (Record.isQueuedOf h) = some r) : PathEvent s (s.takeRecord h r) := by
  unfold State.takeRecord
  split
  · exact .of_settled rfl (s.setOldestQueued_settles h nofun) rfl rfl
  · have settled : SettledPool (s.setOldestQueued h (.onBus false)).pool s.pool := s.setOldestQueued_settles h nofun
    refine ⟨State.issue_busView _ _ ▸ .issue s.busView _ r.toJob, ?_⟩
    unfold State.issue
    dsimp only
    split
    · next fill =>
      have queued : r.isQueued = true := (Bool.and_eq_true _ _ ▸ List.find?_some found).2
      exact .reserve s.slotView r _ _ _ (List.mem_of_find?_eq_some found) queued (State.isFill_iff.1 fill).2.1 settled
    · exact .fade settled (.refl _) rfl

theorem State.selection_path (s : State) : PathEvent s s.selection := by
  rcases s.selection_cases with e | ⟨h, q, r, -, -, found, e⟩ <;> rw [e]
  · exact .refl s
  · let u : State := { s with arbiter := { holder := some h, quantum := q - 1 } }
    have taken : PathEvent u (u.takeRecord h r) := State.takeRecord_path found
    exact ⟨taken.bus, taken.slots⟩

/-! ## Every command and every step -/

/-- A command is a chain of events of the bus and of the slots' records and lines. -/
theorem exec_path {c : Instr} {s t : State} (run : exec c s = .next t) : PathEvents s t := by
  cases c with
  | slotRead h slot offset width => cases run; exact State.take_path (s.slotRead_path h slot offset width)
  | slotWrite h slot offset width data => cases run; exact State.take_path (s.slotWrite_path h slot offset width data)
  | unmappedRequest h word data => cases run; exact State.take_path (s.access_path h _)
  | portStatus h width offset => cases run; exact State.take_path (s.access_path h _)
  | noticePop h value => cases run; exact State.take_path (s.pop_path h)
  | threshold h value => cases run; exact State.take_path (s.writeThreshold_path h value)
  | cancelReads h value => cases run; exact State.take_path (s.cancelReads_path h)
  | claim h n => cases run; exact State.take_path (s.claim_path h n)
  | release h value => cases run; exact State.take_path (s.release_path h value)
  | rearm h value => cases run; exact State.take_path (s.rearm_path h value)
  | cfgDataWrite h value => cases run; exact State.take_path (s.cfgDataWrite_path h value)
  | cfgCdataWrite h value => cases run; exact State.take_path (s.cfgCdataWrite_path h value)
  | registerWrite h width offset value => cases run; exact State.take_path (s.access_path h _)
  | attentionLineActive n => cases run; exact .single (s.attentionLine_path n true)
  | attentionLineInactive n => cases run; exact .single (s.attentionLine_path n false)
  | tickEvent => cases run; exact s.tickEvent_path
  | collectionTimerExpiry h slot offset width => cases run; exact .single (s.collectionExpiry_path h slot offset width)
  | lifetimeExpiry e => cases run; exact .single (s.lifetimeExpiry_path e)
  | claimTimeout n => cases run; exact .single (.of_same rfl rfl)
  | holdTimeout n => cases run; exact .single (.of_same rfl rfl)
  | selection => cases run; exact .single s.selection_path
  | setupEnd pdcl => cases run; exact .single (s.setupEnd_path pdcl)
  | strobePeriodEnd prdy lanes ppar => cases run; exact .single (s.strobePeriodEnd_path prdy lanes ppar)
  | ready lanes ppar => cases run; exact .single (s.ready_path lanes ppar)
  | decline => cases run; exact .single s.decline_path
  | readyLimitExpiry => cases run; exact .single s.readyLimitExpiry_path
  | recoveryEnd => cases run; exact .single s.recoveryEnd_path
  | completion => cases run; exact .single s.completion_path
  | placementPass h => cases run; exact s.placementPass_path h
  | portReset h => cases run; exact .single (s.assertPrst_path h)
  | returnToUp h => cases run; exact .single (s.deassertPrst_path h)
  | gatewayReset => cases run; exact .single s.gatewayReset_path
  | gatewayResetEnd => cases run; exact s.gatewayResetEnd_path

/-- A relation of states that every command's effect meets, and every part of a bus clock that is no command. -/
structure StepClosed (R : State → State → Prop) : Prop where
  refl : ∀ s, R s s
  trans : ∀ {s t u}, R s t → R t u → R s u
  command : ∀ {c s t}, exec c s = .next t → R s t
  taken : ∀ (s : State) (rest : List Instr), R s { s with pending := rest }
  expireDue : ∀ s : State, R s s.expireDue
  divide : ∀ s : State, R s s.divide
  counted : ∀ (s : State) (op : Operation) (clocks : Nat), s.sequencer = some op →
    R s { s with sequencer := some { op with phaseClocks := clocks } }
  sampled : ∀ (s : State) (samples : Nat), R s { s with samples := samples }

namespace StepClosed

variable {R : State → State → Prop} (closed : StepClosed R)

include closed

theorem recoveryOver (s : State) : R s s.recoveryOver :=
  closed.trans (closed.command (c := .recoveryEnd) rfl) (closed.command (c := .completion) rfl)

theorem endShortRecovery (s : State) : R s s.endShortRecovery := by
  unfold State.endShortRecovery
  split
  · split
    · exact closed.recoveryOver s
    · exact closed.refl s
  · exact closed.refl s

theorem endPhase (s : State) (op : Operation) : R s (s.endPhase op) := by
  unfold State.endPhase
  split
  · exact closed.command (c := .setupEnd false) rfl
  · exact closed.trans (closed.sampled s (s.samples + 1)) (closed.command (c := .strobePeriodEnd false _ _) rfl)
  · exact closed.command (c := .readyLimitExpiry) rfl
  · exact closed.recoveryOver s

theorem countPhase (s : State) : R s s.countPhase := by
  unfold State.countPhase
  split
  · next op busy =>
    have counted := closed.counted s op (op.phaseClocks + 1) busy
    dsimp only
    split
    · exact closed.trans counted (closed.endPhase _ _)
    · exact counted
  · exact closed.refl s

/-- A bus clock: what is due, the divider, and the beat in progress (R149, R152, assumption 3). -/
theorem clock (s : State) : R s s.clock := by
  unfold State.clock
  split
  · exact closed.refl s
  · have settled : R s s.settle := closed.trans (closed.endShortRecovery s) (closed.expireDue _)
    have divided : R s s.settle.divide := closed.trans settled (closed.divide _)
    exact closed.trans (closed.trans divided (closed.countPhase _)) (closed.endShortRecovery _)

/-- A step is a command or a bus clock. -/
theorem step {s t : State} (run : Machine.step s = .next t) : R s t := by
  unfold Machine.step at run
  split at run
  · cases run
    exact closed.clock s
  · next c rest _ => exact closed.trans (closed.taken s rest) (closed.command run)

end StepClosed

/-- The parts of a step are chains of events of the bus and of the slots' records and lines. -/
theorem pathEvents_stepClosed : StepClosed PathEvents where
  refl _ := .refl
  trans := .trans
  command := exec_path
  taken _ _ := .single (.of_same rfl rfl)
  expireDue s := .single s.expireDue_path
  divide s := .single s.divide_path
  counted s op clocks busy := .single (.of_bus (.count s.busView op clocks busy) rfl)
  sampled _ _ := .single (.of_same rfl rfl)

/-- What each event of the bus and of the slots' records and lines keeps, every step keeps. -/
theorem keeps_of_pathEvent {P : State → Prop} (kept : ∀ {s t}, PathEvent s t → P s → P t) : Keeps P := by
  intro s t hs run
  have chain := pathEvents_stepClosed.step run
  clear run
  induction chain with
  | refl => exact hs
  | tail _ e ih => exact kept e ih

end Sys2Proof.Machine

namespace Sys2Proof.Proofs

open Sys2Proof.Machine Sys2Proof.Statements

/-- Settles O55: each event of the bus keeps the operation on its plan and the pins on the operation. -/
theorem stepKeepsPlanAndPins : Obligations.StepKeepsPlanAndPins :=
  ⟨keeps_of_pathEvent fun e => e.bus.keeps_sound,
    keeps_of_pathEvent fun e follow => State.pinsSound_iff.2 (e.bus.keeps_pins (State.pinsSound_iff.1 follow))⟩

/-- Settles O57: each event of the slots' records and lines keeps the lines fresh, and lines and records served. -/
theorem stepKeepsLinesFreshAndServed : Obligations.StepKeepsLinesFreshAndServed :=
  ⟨keeps_of_pathEvent fun e fresh => State.noStaleLine_iff.2 (e.slots.keeps_fresh (State.noStaleLine_iff.1 fresh)),
    keeps_of_pathEvent fun e served => State.servedSlots_iff.2 (e.slots.keeps_served (State.servedSlots_iff.1 served))⟩

end Sys2Proof.Proofs
end

section
/-!
PROOFS. The read-ahead lines in agreement with the fill in flight. `LineView` holds the two; each change of the lines is
shown once to keep them in agreement, and every other operation to leave the two as they are.
-/

namespace Sys2Proof.Machine

open Sys2Proof.Statements

/-! ## The lines and the fill in flight -/

/-- The read-ahead lines, and the line of the fill in flight. -/
structure LineView where
  lines : ReadAhead
  fill : Option (SlotId × Word)

/-- The lines and the fill as a state has them. -/
def State.lineView (s : State) : LineView where
  lines := s.lines
  fill := s.fillInFlight

/-- The lines agree among themselves and with the fill in flight (R69, R70). -/
structure LineView.Agrees (v : LineView) : Prop where
  recency : v.lines.RecencySound
  unique : v.lines.TagsUnique
  ofFill : ∀ e : EntryId, v.lines.entries[e].isFilling = true → v.fill = v.lines.entries[e].tag
  reserved : v.fill.isSome = true → ∃ e : EntryId, v.lines.entries[e].isFilling = true

theorem State.linesAgree_iff {s : State} : s.LinesAgree ↔ s.lineView.Agrees :=
  ⟨fun ⟨recency, unique, ofFill, reserved⟩ => ⟨recency, unique, ofFill, reserved⟩,
    fun ⟨recency, unique, ofFill, reserved⟩ => ⟨recency, unique, ofFill, reserved⟩⟩

/-! ## Entries -/

/-- An entry is in use exactly where it has a line (R67). -/
theorem LineEntry.isInvalid_eq_false_iff {entry : LineEntry} : entry.isInvalid = false ↔ entry.tag.isSome = true := by
  cases entry <;> simp [isInvalid, tag]

theorem LineEntry.isFilling_iff {entry : LineEntry} :
    entry.isFilling = true ↔ ∃ slot base poisoned, entry = .filling slot base poisoned := by
  cases entry <;> simp [isFilling]

/-- A FILLING entry has a line. -/
theorem LineEntry.tag_of_isFilling {entry : LineEntry} (filling : entry.isFilling = true) :
    entry.tag.isSome = true := by
  obtain ⟨_, _, _, rfl⟩ := LineEntry.isFilling_iff.1 filling
  rfl

/-- `entry'` is what an event apart from the fills leaves of `entry`: it has the same line or none, and is FILLING
exactly where `entry` was. -/
structure LineEntry.Ages (entry' entry : LineEntry) : Prop where
  tag : entry'.tag.isSome = true → entry'.tag = entry.tag
  filling : entry'.isFilling = entry.isFilling

namespace LineEntry

theorem Ages.refl (entry : LineEntry) : Ages entry entry := ⟨fun _ => rfl, rfl⟩

/-- An entry that was not FILLING is dropped. -/
theorem Ages.invalid {entry : LineEntry} (settled : entry.isFilling = false) : Ages .invalid entry :=
  ⟨nofun, settled.symm⟩

/-- Only an entry in use is in use later. -/
theorem Ages.inUse {entry' entry : LineEntry} (ages : Ages entry' entry) (later : entry'.isInvalid = false) :
    entry.isInvalid = false := by
  rw [isInvalid_eq_false_iff] at later ⊢
  exact ages.tag later ▸ later

/-- A write admission drops VALID entries and poisons FILLING ones (R74). -/
theorem afterWrite_ages (slot : SlotId) (base : Word) (entry : LineEntry) :
    Ages (entry.afterWrite slot base) entry := by
  unfold afterWrite
  split
  · split
    · exact .invalid rfl
    · exact .refl _
  · split <;> exact ⟨fun _ => rfl, rfl⟩
  · exact .refl _

/-- A profile write drops VALID entries and poisons FILLING ones (R81). -/
theorem afterProfile_ages (slot : SlotId) (entry : LineEntry) : Ages (entry.afterProfile slot) entry := by
  unfold afterProfile
  split
  · split
    · exact .invalid rfl
    · exact .refl _
  · split <;> exact ⟨fun _ => rfl, rfl⟩
  · exact .refl _

/-- A tick changes a lifetime timer only (R150). -/
@[simp] theorem tag_tick (entry : LineEntry) : entry.tick.tag = entry.tag := by cases entry <;> rfl

theorem tick_ages (entry : LineEntry) : Ages entry.tick entry :=
  ⟨fun _ => entry.tag_tick, by cases entry <;> rfl⟩

/-- An entry once its lifetime expiry, if one is due, has been taken (R78). -/
def expireDue (entry : LineEntry) : LineEntry := if entry.isDue then .invalid else entry

/-- Of the entries in use those that are due become INVALID (R78). -/
theorem isInvalid_expireDue {entry : LineEntry} (inUse : entry.isInvalid = false) :
    entry.expireDue.isInvalid = entry.isDue := by
  unfold expireDue
  split
  · next due => exact due.symm
  · next waits => rw [inUse, Bool.eq_false_iff.2 waits]

/-- A due lifetime expiry drops a VALID entry (R78). -/
theorem expireDue_ages (entry : LineEntry) : Ages entry.expireDue entry := by
  unfold expireDue
  split
  · next due =>
    refine .invalid ?_
    cases entry with
    | valid => rfl
    | _ => cases due
  · exact .refl entry

end LineEntry

/-! ## The recency order -/

namespace ReadAhead

variable {l l' : ReadAhead} {e : EntryId} {entry : LineEntry}

/-- The entries that are no longer in use leave the order (R69). -/
theorem RecencySound.filter (sound : l.RecencySound) {p : EntryId → Bool} (order : l'.recency = l.recency.filter p)
    (inUse : ∀ f : EntryId, l'.entries[f].isInvalid = false ↔ l.entries[f].isInvalid = false ∧ p f = true) :
    l'.RecencySound := by
  obtain ⟨nodup, mem⟩ := sound
  refine ⟨order ▸ nodup.filter p, fun f => ?_⟩
  rw [order, List.mem_filter, mem f, inUse f]

theorem RecencySound.change (sound : l.RecencySound) {f : LineEntry → LineEntry}
    (ages : ∀ entry, (f entry).Ages entry) : (l.change f).RecencySound := by
  refine sound.filter rfl fun e => ?_
  rw [ReadAhead.change_entry, Bool.not_eq_true']
  exact ⟨fun later => ⟨(ages _).inUse later, later⟩, And.right⟩

theorem RecencySound.drop (sound : l.RecencySound) (e : EntryId) : (l.drop e).RecencySound := by
  refine sound.filter rfl fun f => ?_
  by_cases same : f = e
  · rw [same, ReadAhead.drop_entry_same]
    simp [LineEntry.isInvalid]
  · rw [ReadAhead.drop_entry_ne l same]
    simp [same]

/-- The due lifetime expiries change each entry, as no entry of the order is INVALID already (R69, R78). -/
theorem RecencySound.expireDue_eq (sound : l.RecencySound) : l.expireDue = l.change LineEntry.expireDue := by
  have order : l.expireDue.recency = (l.change LineEntry.expireDue).recency := List.filter_congr fun e mem =>
    (congrArg not (LineEntry.isInvalid_expireDue ((sound.2 e).1 mem))).symm
  exact congrArg (fun recency => { l.expireDue with recency := recency }) order

/-- A tick lowers the timers of the entries and leaves the order (R69, R150). -/
theorem RecencySound.tick_eq (sound : l.RecencySound) :
    { l with entries := Vector.ofFn fun e => (l.entries[e]).tick } = l.change LineEntry.tick := by
  have order : (l.change LineEntry.tick).recency = l.recency := List.filter_eq_self.2 fun e mem => by
    have inUse := (sound.2 e).1 mem
    rw [LineEntry.isInvalid_eq_false_iff] at inUse
    rw [Bool.not_eq_true', LineEntry.isInvalid_eq_false_iff, LineEntry.tag_tick]
    exact inUse
  exact congrArg (fun recency => { l.change LineEntry.tick with recency := recency }) order.symm

/-- The placed entry is the most recent (R69). -/
theorem RecencySound.place (sound : l.RecencySound) (e : EntryId) (inUse : entry.isInvalid = false) :
    (l.place e entry).RecencySound := by
  obtain ⟨nodup, mem⟩ := sound
  refine ⟨List.nodup_cons.2 ⟨by simp, nodup.filter _⟩, fun f => ?_⟩
  by_cases same : f = e
  · rw [same, ReadAhead.place_entry_same]
    simp [ReadAhead.place, inUse]
  · rw [ReadAhead.place_entry_ne l entry same, ← mem f]
    simp [ReadAhead.place, same]

/-- A hit places the entry as it is (R76). -/
theorem touch_eq_place (l : ReadAhead) (e : EntryId) : l.touch e = l.place e l.entries[e] := by
  simp [touch, place]

/-! ## One entry for each line -/

/-- Entries that keep their lines or lose them stay apart (R70). -/
theorem TagsUnique.of_tags (unique : l.TagsUnique)
    (tags : ∀ f : EntryId, l'.entries[f].tag.isSome = true → l'.entries[f].tag = l.entries[f].tag) : l'.TagsUnique := by
  intro e f here same
  have there : l'.entries[f].tag.isSome = true := same ▸ here
  exact unique e f (tags e here ▸ here) ((tags e here).symm.trans (same.trans (tags f there)))

/-- An entry placed for a line that no other entry has stays apart from them (R70). -/
theorem TagsUnique.place (unique : l.TagsUnique) (apart : ∀ f : EntryId, f ≠ e → l.entries[f].tag ≠ entry.tag) :
    (l.place e entry).TagsUnique := by
  intro f g here same
  by_cases hf : f = e <;> by_cases hg : g = e
  · rw [hf, hg]
  · rw [hf, ReadAhead.place_entry_same, ReadAhead.place_entry_ne l entry hg] at same
    exact absurd same.symm (apart g hg)
  · rw [hg, ReadAhead.place_entry_same, ReadAhead.place_entry_ne l entry hf] at same
    exact absurd same (apart f hf)
  · rw [ReadAhead.place_entry_ne l entry hf] at here same
    rw [ReadAhead.place_entry_ne l entry hg] at same
    exact unique f g here same

end ReadAhead

/-! ## What keeps the lines and the fill in agreement -/

namespace LineView.Agrees

variable {v : LineView} {e : EntryId} {entry : LineEntry}

/-- Lines whose entries have aged agree with the same fill. -/
theorem age (agrees : v.Agrees) {lines : ReadAhead} (recency : lines.RecencySound)
    (ages : ∀ f : EntryId, lines.entries[f].Ages v.lines.entries[f]) : Agrees { v with lines := lines } where
  recency := recency
  unique := agrees.unique.of_tags fun f => (ages f).tag
  ofFill f filling :=
    (agrees.ofFill f ((ages f).filling ▸ filling)).trans ((ages f).tag (LineEntry.tag_of_isFilling filling)).symm
  reserved busy := by
    obtain ⟨f, filling⟩ := agrees.reserved busy
    exact ⟨f, (ages f).filling.trans filling⟩

theorem change (agrees : v.Agrees) {f : LineEntry → LineEntry} (ages : ∀ entry, (f entry).Ages entry) :
    Agrees { v with lines := v.lines.change f } :=
  agrees.age (agrees.recency.change ages) fun e => by
    rw [ReadAhead.change_entry]
    exact ages _

/-- An entry that is not FILLING is dropped. -/
theorem drop (agrees : v.Agrees) (settled : v.lines.entries[e].isFilling = false) :
    Agrees { v with lines := v.lines.drop e } := by
  refine agrees.age (agrees.recency.drop e) fun f => ?_
  by_cases same : f = e
  · rw [same, ReadAhead.drop_entry_same]
    exact .invalid settled
  · rw [ReadAhead.drop_entry_ne _ same]
    exact .refl _

/-- An entry in use becomes the most recent (R69, R76). -/
theorem touch (agrees : v.Agrees) (inUse : v.lines.entries[e].isInvalid = false) :
    Agrees { v with lines := v.lines.touch e } :=
  agrees.age (ReadAhead.touch_eq_place v.lines e ▸ agrees.recency.place e inUse) fun _ => .refl _

/-- At most one entry is FILLING (R70). -/
theorem filling_alone (agrees : v.Agrees) (filling : v.lines.entries[e].isFilling = true) {f : EntryId} (ne : f ≠ e) :
    v.lines.entries[f].isFilling = false := by
  refine Bool.eq_false_iff.2 fun also => ne (agrees.unique f e (LineEntry.tag_of_isFilling also) ?_)
  exact (agrees.ofFill f also).symm.trans (agrees.ofFill e filling)

/-- While no fill is in flight no entry is FILLING (R70). -/
theorem settled_of_idle (agrees : v.Agrees) (idle : v.fill = none) (f : EntryId) :
    v.lines.entries[f].isFilling = false := by
  refine Bool.eq_false_iff.2 fun filling => ?_
  have line := LineEntry.tag_of_isFilling filling
  rw [← agrees.ofFill f filling, idle] at line
  cases line

/-- A fill of a line that no VALID entry has reserves an entry (R70). -/
theorem reserve (agrees : v.Agrees) (idle : v.fill = none) (e : EntryId) {slot : SlotId} {base : Word}
    (uncovered : ∀ (f : EntryId) data timer, v.lines.entries[f] ≠ .valid slot base data timer) :
    Agrees { lines := v.lines.place e (.filling slot base false), fill := some (slot, base) } where
  recency := agrees.recency.place e rfl
  unique := agrees.unique.place fun f _ tag => by
    cases entry : v.lines.entries[f] with
    | invalid => simp [entry, LineEntry.tag] at tag
    | filling => simpa [entry, LineEntry.isFilling] using agrees.settled_of_idle idle f
    | valid _ _ data timer =>
      rw [entry] at tag
      obtain ⟨rfl, rfl⟩ := Prod.mk.inj (Option.some.inj tag)
      exact uncovered f data timer entry
  ofFill f filling := by
    by_cases same : f = e
    · rw [same, ReadAhead.place_entry_same]
      rfl
    · rw [ReadAhead.place_entry_ne _ _ same, agrees.settled_of_idle idle f] at filling
      cases filling
  reserved _ := ⟨e, by rw [ReadAhead.place_entry_same]; rfl⟩

/-- The fill ends and no entry is FILLING any more (R72). -/
theorem ended {lines : ReadAhead} (recency : lines.RecencySound) (unique : lines.TagsUnique)
    (settled : ∀ f : EntryId, lines.entries[f].isFilling = false) : Agrees { lines := lines, fill := none } where
  recency := recency
  unique := unique
  ofFill f filling := by cases (settled f).symm.trans filling
  reserved := nofun

/-- The fill ends and its line is lost (R72). -/
theorem fillLost (agrees : v.Agrees) (filling : v.lines.entries[e].isFilling = true) :
    Agrees { lines := v.lines.drop e, fill := none } := by
  refine ended (agrees.recency.drop e) (agrees.unique.of_tags fun f => ?_) fun f => ?_ <;> by_cases same : f = e
  · rw [same, ReadAhead.drop_entry_same]
    nofun
  · rw [ReadAhead.drop_entry_ne _ same]
    exact fun _ => rfl
  · rw [same, ReadAhead.drop_entry_same]
    rfl
  · rw [ReadAhead.drop_entry_ne _ same]
    exact agrees.filling_alone filling same

/-- The fill ends and its entry has the line VALID (R72). -/
theorem fillKept (agrees : v.Agrees) {slot : SlotId} {base : Word} {poisoned : Bool}
    (filling : v.lines.entries[e] = .filling slot base poisoned) (data : Vector Byte 16) (timer : Nat) :
    Agrees { lines := v.lines.place e (.valid slot base data timer), fill := none } := by
  have line : v.lines.entries[e].tag = some (slot, base) := congrArg LineEntry.tag filling
  refine ended (agrees.recency.place e rfl) (agrees.unique.place fun f ne tag => ne ?_) fun f => ?_
  · exact (agrees.unique e f (by rw [line]; rfl) (line.trans tag.symm)).symm
  · by_cases same : f = e
    · rw [same, ReadAhead.place_entry_same]
      rfl
    · rw [ReadAhead.place_entry_ne _ _ same]
      exact agrees.filling_alone (congrArg LineEntry.isFilling filling) same

/-- The lines after gateway reset: no entry is in use (R83). -/
theorem reset : Agrees { lines := ReadAhead.reset, fill := none } := by
  have invalid (e : EntryId) : ReadAhead.reset.entries[e] = .invalid := by simp [ReadAhead.reset]
  refine ended ⟨List.nodup_nil, fun e => ?_⟩ (fun e _ here => ?_) fun e => ?_
  · rw [invalid e]
    exact iff_of_false List.not_mem_nil nofun
  · rw [invalid e] at here
    cases here
  · rw [invalid e]
    rfl

end LineView.Agrees

/-! ## Operations that leave the lines and the fill -/

section Frame

variable (s : State)

@[simp] theorem State.claim_lineView (h : HostId) (n : SourceId) : (s.claim h n).1.lineView = s.lineView := by
  unfold State.claim
  dsimp only
  split <;> rfl

@[simp] theorem State.release_lineView (h : HostId) (value : Word) : (s.release h value).1.lineView = s.lineView := by
  unfold State.release
  split
  · rfl
  · split <;> rfl

@[simp] theorem State.rearm_lineView (h : HostId) (value : Word) : (s.rearm h value).1.lineView = s.lineView := by
  unfold State.rearm
  split
  · rfl
  · split <;> rfl

@[simp] theorem State.pop_lineView (h : HostId) : (s.pop h).1.lineView = s.lineView := by
  unfold State.pop
  split <;> rfl

@[simp] theorem State.writeThreshold_lineView (h : HostId) (value : Word) :
    (s.writeThreshold h value).1.lineView = s.lineView := by
  unfold State.writeThreshold
  split <;> rfl

@[simp] theorem State.readReg_lineView (h : HostId) (reg : ControlReg) : (s.readReg h reg).1.lineView = s.lineView := by
  cases reg with
  | claim n => exact s.claim_lineView h n
  | _ => rfl

@[simp] theorem State.placeDelivery_lineView (h : HostId) (d : Delivery) :
    (s.placeDelivery h d).lineView = s.lineView := by
  cases d <;> rfl

@[simp] theorem State.placeUpTo_lineView (h : HostId) (room : Nat) : (s.placeUpTo h room).lineView = s.lineView := by
  induction room generalizing s with
  | zero => rfl
  | succ room ih =>
    unfold State.placeUpTo
    split
    · rfl
    · exact (ih _).trans (s.placeDelivery_lineView h _)

@[simp] theorem State.placementPass_lineView (h : HostId) : (s.placementPass h).lineView = s.lineView := by
  unfold State.placementPass
  split
  · exact s.placeUpTo_lineView h _
  · rfl

@[simp] theorem State.attentionLine_lineView (n : SourceId) (level : Bool) :
    (s.attentionLine n level).lineView = s.lineView := by
  unfold State.attentionLine
  split
  · rfl
  · dsimp only
    split
    · rfl
    · split <;> rfl

@[simp] theorem State.assertPrst_lineView (h : HostId) : (s.assertPrst h).lineView = s.lineView := by
  unfold State.assertPrst
  split
  · rfl
  · dsimp only
    split <;> rfl

@[simp] theorem State.deassertPrst_lineView (h : HostId) : (s.deassertPrst h).lineView = s.lineView := by
  unfold State.deassertPrst
  split
  · dsimp only
    split <;> rfl
  · rfl

@[simp] theorem State.gatewayResetEnd_lineView : s.gatewayResetEnd.lineView = s.lineView := by
  have returns (hosts : List HostId) (u : State) :
      (hosts.foldl (fun u h => if (u.port h).prst then u else u.returnToUp h) u).lineView = u.lineView := by
    induction hosts generalizing u with
    | nil => rfl
    | cons h hosts ih =>
      refine (ih _).trans ?_
      dsimp only
      split <;> rfl
  unfold State.gatewayResetEnd
  split
  · exact returns allHosts _
  · rfl

end Frame

/-! ## The beats of an operation leave them -/

section Beats

variable {s t : State} {op : Operation}

theorem State.lineView_of_busy (busy : s.sequencer = some op) :
    s.lineView = { lines := s.lines, fill := op.fillLine } := by
  simp [State.lineView, State.fillInFlight, busy]

/-- The operation in flight goes on for the same line (R45). -/
theorem State.lineView_goesOn {op' : Operation} (busy : s.sequencer = some op) (after : t.sequencer = some op')
    (fill : op'.fillLine = op.fillLine) (lines : t.lines = s.lines) : t.lineView = s.lineView := by
  rw [State.lineView_of_busy busy, State.lineView_of_busy after, fill, lines]

theorem State.takeTransfer_lineView (busy : s.sequencer = some op) (lanes : Word) (ppar : Bool) :
    (s.takeTransfer op lanes ppar).lineView = s.lineView := by
  rcases s.takeTransfer_cases op lanes ppar with ⟨-, e⟩ | ⟨-, -, e⟩ | ⟨-, -, e⟩ <;> rw [e] <;>
    exact State.lineView_goesOn busy rfl rfl rfl

@[simp] theorem State.setupEnd_lineView (s : State) (pdcl : Bool) : (s.setupEnd pdcl).lineView = s.lineView := by
  unfold State.setupEnd
  split
  · next op busy =>
    split
    · split <;> exact State.lineView_goesOn busy rfl rfl rfl
    · rfl
  · rfl

@[simp] theorem State.strobePeriodEnd_lineView (s : State) (prdy : Bool) (lanes : Word) (ppar : Bool) :
    (s.strobePeriodEnd prdy lanes ppar).lineView = s.lineView := by
  unfold State.strobePeriodEnd
  split
  · next op busy =>
    split
    · split
      · exact State.takeTransfer_lineView busy lanes ppar
      · exact State.lineView_goesOn busy rfl rfl rfl
    · rfl
  · rfl

@[simp] theorem State.ready_lineView (s : State) (lanes : Word) (ppar : Bool) :
    (s.ready lanes ppar).lineView = s.lineView := by
  unfold State.ready
  split
  · next op busy =>
    split
    · exact State.takeTransfer_lineView busy lanes ppar
    · rfl
  · rfl

@[simp] theorem State.decline_lineView (s : State) : s.decline.lineView = s.lineView := by
  unfold State.decline
  split
  · next op busy =>
    split
    · exact State.lineView_goesOn busy rfl rfl rfl
    · rfl
  · rfl

@[simp] theorem State.readyLimitExpiry_lineView (s : State) : s.readyLimitExpiry.lineView = s.lineView := by
  unfold State.readyLimitExpiry
  split
  · next op busy =>
    split
    · exact State.lineView_goesOn busy rfl rfl rfl
    · rfl
  · rfl

@[simp] theorem State.recoveryEnd_lineView (s : State) : s.recoveryEnd.lineView = s.lineView := by
  unfold State.recoveryEnd
  split
  · next op busy =>
    split
    · exact State.lineView_goesOn busy rfl rfl rfl
    · rfl
  · rfl

end Beats

/-! ## Operations that reach the lines -/

section Lines

variable {s : State}

/-- The entry that covers an offset is in use (R68). -/
theorem State.inUse_of_validEntry {slot : SlotId} {offset : Word} {e : EntryId}
    (covers : s.validEntry slot offset = some e) : (s.entry e).isInvalid = false := by
  obtain ⟨_, _, valid⟩ := State.validEntry_eq_some covers
  rw [valid]
  rfl

/-- A hit is on an entry that covers the read (R11, R76). -/
theorem State.slotReadUnmatched_view (s : State) (h : HostId) (slot : SlotId) (offset : Word) (width : Width) :
    (s.slotReadUnmatched h slot offset width).1.lineView = s.lineView ∨
      ∃ e, s.validEntry slot offset = some e ∧
        (s.slotReadUnmatched h slot offset width).1.lineView = { s.lineView with lines := s.lines.touch e } := by
  unfold State.slotReadUnmatched
  split
  · exact .inl rfl
  split
  · exact .inl rfl
  split
  · next e hit =>
    refine .inr ⟨e, ?_, rfl⟩
    split at hit
    · exact hit
    · cases hit
  · split <;> exact .inl rfl

theorem State.slotRead_agrees (agrees : s.lineView.Agrees) (h : HostId) (slot : SlotId) (offset : Word)
    (width : Width) : (s.slotRead h slot offset width).1.lineView.Agrees := by
  rcases s.slotRead_cases h slot offset width with ⟨_, _, _, -, -, e⟩ | ⟨_, -, -, e⟩ | ⟨-, e⟩ <;> rw [e]
  · exact agrees
  · exact agrees
  · rcases s.slotReadUnmatched_view h slot offset width with same | ⟨e, covers, hit⟩
    · rw [same]
      exact agrees
    · rw [hit]
      exact agrees.touch (State.inUse_of_validEntry covers)

theorem State.slotWrite_agrees (agrees : s.lineView.Agrees) (h : HostId) (slot : SlotId) (offset : Word) (width : Width)
    (data : Word) : (s.slotWrite h slot offset width data).1.lineView.Agrees := by
  rcases s.slotWrite_cases h slot offset width data with ⟨_, e⟩ | ⟨_, -, e⟩ | ⟨-, -, e⟩ <;> rw [e]
  · exact agrees
  · exact agrees
  · exact agrees.change (LineEntry.afterWrite_ages slot _)

/-- An accepted write of a profile word clears the slot's lines; one of another item leaves them (R81). -/
theorem State.acceptWrite_view (s : State) (h : HostId) (item : Item) (v : Word) :
    (s.acceptWrite h item v).lineView = s.lineView ∨
      ∃ slot, (s.acceptWrite h item v).lineView =
        { s.lineView with lines := s.lines.change (LineEntry.afterProfile slot) } := by
  cases item with
  | mode slot =>
    refine .inr ⟨slot, ?_⟩
    unfold State.acceptWrite State.inform
    dsimp only
    split <;> rfl
  | timingA slot => exact .inr ⟨slot, rfl⟩
  | timingB slot => exact .inr ⟨slot, rfl⟩
  | _ => exact .inl rfl

theorem State.acceptWrite_agrees (agrees : s.lineView.Agrees) (h : HostId) (item : Item) (v : Word) :
    (s.acceptWrite h item v).lineView.Agrees := by
  rcases s.acceptWrite_view h item v with same | ⟨slot, cleared⟩
  · rw [same]
    exact agrees
  · rw [cleared]
    exact agrees.change (LineEntry.afterProfile_ages slot)

theorem State.cfgDataWrite_agrees (agrees : s.lineView.Agrees) (h : HostId) (v : Word) :
    (s.cfgDataWrite h v).1.lineView.Agrees := by
  unfold State.cfgDataWrite
  split
  · exact agrees
  · split
    · exact State.acceptWrite_agrees agrees h _ v
    · exact agrees

theorem State.cfgCdataWrite_agrees (agrees : s.lineView.Agrees) (h : HostId) (v : Word) :
    (s.cfgCdataWrite h v).1.lineView.Agrees := by
  unfold State.cfgCdataWrite
  split
  · exact agrees
  · split
    · exact agrees
    · split
      · exact agrees
      · exact State.acceptWrite_agrees agrees h _ v

theorem State.writeReg_agrees (agrees : s.lineView.Agrees) (h : HostId) (value : Word) (reg : ControlReg) :
    (s.writeReg h value reg).1.lineView.Agrees := by
  cases reg with
  | noticePop => exact s.pop_lineView h ▸ agrees
  | threshold => exact s.writeThreshold_lineView h value ▸ agrees
  | release => exact s.release_lineView h value ▸ agrees
  | rearm => exact s.rearm_lineView h value ▸ agrees
  | cfgData => exact State.cfgDataWrite_agrees agrees h value
  | cfgCdata => exact State.cfgCdataWrite_agrees agrees h value
  | _ => exact agrees

/-- A decoded request keeps the lines in agreement (R167). -/
theorem State.access_agrees (agrees : s.lineView.Agrees) (h : HostId) (a : Access) :
    (s.access h a).1.lineView.Agrees := by
  cases a with
  | slotRead slot offset width => exact State.slotRead_agrees agrees h slot offset width
  | slotWrite slot offset width data => exact State.slotWrite_agrees agrees h slot offset width data
  | readReg reg => exact s.readReg_lineView h reg ▸ agrees
  | writeReg reg value => exact State.writeReg_agrees agrees h value reg
  | badAddress => exact agrees

/-- The taking of a request adds nothing to what its owner does, and a DOWN port takes none (R162, R167). -/
theorem State.take_agrees (agrees : s.lineView.Agrees) {h : HostId} {f : State → State × Answer}
    (owner : (f s).1.lineView.Agrees) : (s.take h f).lineView.Agrees := by
  unfold State.take
  split
  · exact owner
  · exact agrees

theorem State.lifetimeExpiry_agrees (agrees : s.lineView.Agrees) (e : EntryId) :
    (s.lifetimeExpiry e).lineView.Agrees := by
  unfold State.lifetimeExpiry
  split
  · next valid => exact agrees.drop (congrArg LineEntry.isFilling valid)
  · exact agrees

theorem State.expireDue_agrees (agrees : s.lineView.Agrees) : s.expireDue.lineView.Agrees := by
  have expired : s.expireDue.lineView = { s.lineView with lines := s.lines.change LineEntry.expireDue } :=
    congrArg (fun lines => { s.lineView with lines := lines }) agrees.recency.expireDue_eq
  rw [expired]
  exact agrees.change LineEntry.expireDue_ages

theorem State.tick_agrees (agrees : s.lineView.Agrees) : s.tick.lineView.Agrees := by
  have ticked : s.tick.lineView = { s.lineView with lines := s.lines.change LineEntry.tick } :=
    congrArg (fun lines => { s.lineView with lines := lines }) agrees.recency.tick_eq
  rw [ticked]
  exact agrees.change LineEntry.tick_ages

theorem State.tickEvent_agrees (agrees : s.lineView.Agrees) : s.tickEvent.lineView.Agrees := by
  unfold State.tickEvent
  split
  · exact agrees
  · exact State.tick_agrees (State.expireDue_agrees agrees)

theorem State.divide_agrees (agrees : s.lineView.Agrees) : s.divide.lineView.Agrees := by
  unfold State.divide
  split
  · exact State.tick_agrees agrees
  · exact agrees

end Lines

/-! ## Fills -/

section Fills

variable {s : State}

/-- An issue reserves an entry for a fill, and leaves the lines for a single access (R47, R70). -/
theorem State.issue_agrees (agrees : s.lineView.Agrees) (idle : s.sequencer = none) (job : Job) :
    (s.issue job).lineView.Agrees := by
  have noFill : s.lineView.fill = none := by simp [State.lineView, State.fillInFlight, idle]
  have issued := State.lineView_of_busy (State.issue_sequencer s job)
  cases fill : s.isFill job with
  | true =>
    have reserved : (s.issue job).lines =
        s.lines.place s.lines.reserveChoice (.filling job.slot (lineBase job.offset) false) := by
      simp only [State.issue, fill, if_true]
      rfl
    obtain ⟨-, -, -, uncovered, -⟩ := State.isFill_iff.1 fill
    rw [issued, reserved, (State.issuedOperation_fill fill).1]
    exact agrees.reserve noFill _ (State.validEntry_eq_none.1 uncovered)
  | false =>
    have kept : (s.issue job).lines = s.lines := by
      simp only [State.issue, fill, Bool.false_eq_true, if_false]
      rfl
    rw [issued, kept, (State.issuedOperation_access fill).1, ← noFill]
    exact agrees

/-- A selection completes a record from a line that covers it, or issues it (R35, R36). -/
theorem State.takeRecord_agrees (agrees : s.lineView.Agrees) (idle : s.sequencer = none) (h : HostId) (r : Record) :
    (s.takeRecord h r).lineView.Agrees := by
  unfold State.takeRecord
  split
  · next e completing =>
    have covers : s.validEntry r.slot r.offset = some e := by
      unfold State.completingEntry at completing
      split at completing
      · exact completing
      · cases completing
    exact agrees.touch (State.inUse_of_validEntry covers)
  · exact State.issue_agrees (s := s.setOldestQueued h (.onBus false)) agrees idle r.toJob

theorem State.selection_agrees (agrees : s.lineView.Agrees) : s.selection.lineView.Agrees := by
  rcases s.selection_cases with e | ⟨h, q, r, idle, -, -, e⟩ <;> rw [e]
  · exact agrees
  · exact State.takeRecord_agrees (s := { s with arbiter := { holder := some h, quantum := q - 1 } }) agrees idle h r

/-- The fill in flight has its FILLING entry (R70). -/
theorem State.fillingEntry_of_agrees (agrees : s.lineView.Agrees) {slot : SlotId} {base : Word}
    (fill : s.fillInFlight = some (slot, base)) :
    ∃ e poisoned, s.fillingEntry slot base = some e ∧ s.entry e = .filling slot base poisoned := by
  obtain ⟨e, filling⟩ := agrees.reserved (Option.isSome_iff_exists.2 ⟨_, fill⟩)
  have line := fill.symm.trans (agrees.ofFill e filling)
  obtain ⟨_, _, poisoned, entry⟩ := LineEntry.isFilling_iff.1 filling
  rw [entry] at line
  obtain ⟨rfl, rfl⟩ := Prod.mk.inj (Option.some.inj line)
  exact ⟨e, poisoned, State.fillingEntry_of_filling agrees.unique entry, entry⟩

/-- The fill end finds the FILLING entry, and drops it or makes it VALID (R70, R72). -/
theorem State.fillEnd_agrees (agrees : s.lineView.Agrees) {slot : SlotId} {base : Word}
    (fill : s.fillInFlight = some (slot, base)) (bytes : Option (Vector Byte 16)) :
    LineView.Agrees { lines := (s.fillEnd slot base bytes).lines, fill := none } := by
  obtain ⟨e, poisoned, found, filling⟩ := State.fillingEntry_of_agrees agrees fill
  rcases s.fillEnd_cases slot base bytes with ⟨missing, -⟩ | ⟨f, here, eq⟩ | ⟨f, data, here, -, -, -, -, eq⟩
  · cases missing.symm.trans found
  · cases here.symm.trans found
    rw [eq]
    exact agrees.fillLost (congrArg LineEntry.isFilling filling)
  · cases here.symm.trans found
    rw [eq]
    exact agrees.fillKept filling data _

/-- A completion ends the fill in flight, if the operation is one (R62). -/
theorem State.completion_agrees (agrees : s.lineView.Agrees) : s.completion.lineView.Agrees := by
  unfold State.completion
  split
  · next op busy =>
    split
    · show LineView.Agrees { lines := ((s.completeRecord op).completeFill op).lines, fill := none }
      have view := State.lineView_of_busy busy
      unfold State.completeFill
      split
      · next access =>
        rw [view, access] at agrees
        exact agrees
      · next slot base fill =>
        exact State.fillEnd_agrees (s := s.completeRecord op) agrees ((congrArg LineView.fill view).trans fill) _
    · exact agrees
  · exact agrees

end Fills

/-! ## Every command and every step -/

/-- Every command keeps the lines in agreement (R69, R70). -/
theorem exec_linesAgree {c : Instr} {s t : State} (run : exec c s = .next t) (agrees : s.lineView.Agrees) :
    t.lineView.Agrees := by
  cases c with
  | slotRead h slot offset width =>
    cases run; exact State.take_agrees agrees (State.slotRead_agrees agrees h slot offset width)
  | slotWrite h slot offset width data =>
    cases run; exact State.take_agrees agrees (State.slotWrite_agrees agrees h slot offset width data)
  | unmappedRequest h word data => cases run; exact State.take_agrees agrees (State.access_agrees agrees h _)
  | portStatus h width offset => cases run; exact State.take_agrees agrees (State.access_agrees agrees h _)
  | noticePop h value => cases run; exact State.take_agrees agrees (s.pop_lineView h ▸ agrees)
  | threshold h value => cases run; exact State.take_agrees agrees (s.writeThreshold_lineView h value ▸ agrees)
  | cancelReads h value => cases run; exact State.take_agrees agrees agrees
  | claim h n => cases run; exact State.take_agrees agrees (s.claim_lineView h n ▸ agrees)
  | release h value => cases run; exact State.take_agrees agrees (s.release_lineView h value ▸ agrees)
  | rearm h value => cases run; exact State.take_agrees agrees (s.rearm_lineView h value ▸ agrees)
  | cfgDataWrite h value => cases run; exact State.take_agrees agrees (State.cfgDataWrite_agrees agrees h value)
  | cfgCdataWrite h value => cases run; exact State.take_agrees agrees (State.cfgCdataWrite_agrees agrees h value)
  | registerWrite h width offset value => cases run; exact State.take_agrees agrees (State.access_agrees agrees h _)
  | attentionLineActive n => cases run; exact s.attentionLine_lineView n true ▸ agrees
  | attentionLineInactive n => cases run; exact s.attentionLine_lineView n false ▸ agrees
  | tickEvent => cases run; exact State.tickEvent_agrees agrees
  | collectionTimerExpiry h slot offset width => cases run; exact agrees
  | lifetimeExpiry e => cases run; exact State.lifetimeExpiry_agrees agrees e
  | claimTimeout n => cases run; exact agrees
  | holdTimeout n => cases run; exact agrees
  | selection => cases run; exact State.selection_agrees agrees
  | setupEnd pdcl => cases run; exact s.setupEnd_lineView pdcl ▸ agrees
  | strobePeriodEnd prdy lanes ppar => cases run; exact s.strobePeriodEnd_lineView prdy lanes ppar ▸ agrees
  | ready lanes ppar => cases run; exact s.ready_lineView lanes ppar ▸ agrees
  | decline => cases run; exact s.decline_lineView ▸ agrees
  | readyLimitExpiry => cases run; exact s.readyLimitExpiry_lineView ▸ agrees
  | recoveryEnd => cases run; exact s.recoveryEnd_lineView ▸ agrees
  | completion => cases run; exact State.completion_agrees agrees
  | placementPass h => cases run; exact s.placementPass_lineView h ▸ agrees
  | portReset h => cases run; exact s.assertPrst_lineView h ▸ agrees
  | returnToUp h => cases run; exact s.deassertPrst_lineView h ▸ agrees
  | gatewayReset => cases run; exact .reset
  | gatewayResetEnd => cases run; exact s.gatewayResetEnd_lineView ▸ agrees

/-- The parts of a step keep the lines in agreement. -/
theorem linesAgree_stepClosed : StepClosed fun s t => s.lineView.Agrees → t.lineView.Agrees where
  refl _ := id
  trans first second := second ∘ first
  command := exec_linesAgree
  taken _ _ := id
  expireDue _ := State.expireDue_agrees
  divide _ := State.divide_agrees
  counted s op clocks busy agrees :=
    State.lineView_goesOn (t := { s with sequencer := some { op with phaseClocks := clocks } }) busy rfl rfl rfl ▸
      agrees
  sampled _ _ := id

end Sys2Proof.Machine

namespace Sys2Proof.Proofs

open Sys2Proof.Machine Sys2Proof.Statements

/-- Settles O56: each part of a step changes the lines together with the fill in flight, or neither. -/
theorem stepKeepsLinesInAgreement : Obligations.StepKeepsLinesInAgreement :=
  fun _ _ agrees run => State.linesAgree_iff.2 (linesAgree_stepClosed.step run (State.linesAgree_iff.1 agrees))

end Sys2Proof.Proofs
end

section
/-!
PROOFS. What the operations on one attention source do: each field after each operation, and that each keeps the source
in agreement with its route and the ports, and its rounds between 0 and 6.
-/

namespace Sys2Proof.Machine

open Sys2Proof.Statements

/-! ## The fields of a source after an operation -/

section Fields

variable (src : Source) (route : Route) (up : HostId → Bool) (h : HostId)

theorem Source.owe_owed (kind : AttentionKind) :
    (src.owe route up kind).owed[h] =
      if route.subscribes h && up h then some { kind := kind, priority := route.priority } else src.owed[h] := by
  simp [Source.owe]

@[simp] theorem Source.raise_state : (src.raise route up).state = .raised 0 route.claimTimeout := rfl

theorem Source.raise_owed :
    (src.raise route up).owed[h] =
      if route.subscribes h && up h then some { kind := .attention 0, priority := route.priority } else src.owed[h] :=
  Source.owe_owed _ route up h _

/-- A release raises the source anew, or leaves it IDLE (R97). -/
theorem Source.release_cases :
    (src.line = true ∧ route.hasSubscriber = true ∧ src.release route up = src.raise route up) ∨
    ((src.line = true → route.hasSubscriber = false) ∧ src.release route up = { src with state := .idle }) := by
  unfold Source.release
  split
  · next anew => exact .inl ⟨anew.1, anew.2, rfl⟩
  · next ends => exact .inr ⟨fun line => Bool.eq_false_iff.2 fun served => ends ⟨line, served⟩, rfl⟩

@[simp] theorem Source.release_line : (src.release route up).line = src.line := by
  rcases src.release_cases route up with ⟨-, -, e⟩ | ⟨-, e⟩ <;> rw [e]
  rfl

@[simp] theorem Source.cancelOwed_owed : src.cancelOwed.owed[h] = none := by simp [Source.cancelOwed]

theorem Source.oweForced_forced (holder : HostId) (cause : Cause) :
    (src.oweForced holder cause).forced[h] = if h = holder then some cause else src.forced[h] :=
  getElem_set_fin src.forced holder h (some cause)

/-- The source is held by the host that has claimed it (R90). -/
theorem Source.isHeldBy_iff {src : Source} {h : HostId} :
    src.isHeldBy h = true ↔ ∃ timer, src.state = .claimed h timer := by
  unfold Source.isHeldBy
  cases src.state <;> simp

/-- Only a RAISED source is granted, and only to a subscriber (R94). -/
theorem Source.claimResult_granted {src : Source} {route : Route} {h : HostId} :
    src.claimResult route h = .granted ↔
      route.subscribes h = true ∧ ∃ round timer, src.state = .raised round timer := by
  unfold Source.claimResult
  split
  · next other => simp [other]
  · next here =>
    have here : route.subscribes h = true := not_not.1 here
    cases src.state with
    | claimed holder timer => by_cases same : holder = h <;> simp [same]
    | _ => simp [here]

/-- Exactly a RAISED or STUCK source has an entry to owe to a host that comes to it (R106, R108). -/
theorem Source.catchUpKind_isSome {src : Source} :
    (∃ kind, src.catchUpKind = some kind) ↔ src.state = .stuck ∨ ∃ round timer, src.state = .raised round timer := by
  unfold Source.catchUpKind
  rcases src.state with _ | ⟨_ | round, timer⟩ | ⟨holder, timer⟩ | _ <;> simp

end Fields

/-! ## Agreement of a source with its route and the ports -/

/-- The source owes a host neither an attention entry nor a forced-release entry. -/
structure Source.OwesNothing (src : Source) (h : HostId) : Prop where
  owed : src.owed[h] = none
  forced : src.forced[h] = none

/-- Nothing is owed to a DOWN port (R91, R107). -/
def Source.OwesUp (src : Source) (up : HostId → Bool) : Prop := ∀ h, up h = false → src.OwesNothing h

/-- The source agrees with its route and owes a DOWN port nothing. -/
structure Source.Fits (src : Source) (route : Route) (up : HostId → Bool) : Prop where
  sound : src.Sound route up
  owes : src.OwesUp up

/-- The rounds of a source and of its owed entries lie between 0 and 6 (R89). -/
structure Source.RoundsWithin (src : Source) : Prop where
  raised : ∀ round timer, src.state = .raised round timer → round ≤ 6
  owed : ∀ h : HostId, ∀ entry ∈ src.owed[h], entry.kind.round ≤ 6

section Sound

variable {src : Source} {route : Route} {up : HostId → Bool}

theorem Source.sound_idle (idle : src.state = .idle) :
    src.Sound route up ↔ (src.line = true → route.hasSubscriber = false) := by
  simp only [Source.Sound, idle]

theorem Source.sound_raised {round timer : Nat} (raised : src.state = .raised round timer) :
    src.Sound route up ↔ src.line = true ∧ route.hasSubscriber = true ∧ round ≤ 6 := by
  simp only [Source.Sound, raised]

theorem Source.sound_claimed {holder : HostId} {timer : Option Nat} (claimed : src.state = .claimed holder timer) :
    src.Sound route up ↔ up holder = true ∧ route.subscribes holder = true := by
  simp only [Source.Sound, claimed]

theorem Source.sound_stuck (stuck : src.state = .stuck) : src.Sound route up ↔ route.hasSubscriber = true := by
  simp only [Source.Sound, stuck]

/-- A route without a subscriber has no host in its set (R87). -/
theorem Route.subscribes_of_empty (empty : route.hasSubscriber = false) (h : HostId) : route.subscribes h = false := by
  have noHost : route.subscribers = 0#4 := by simpa [Route.hasSubscriber] using empty
  simp [Route.subscribes, noHost]

theorem Route.hasSubscriber_of_subscribes {h : HostId} (here : route.subscribes h = true) :
    route.hasSubscriber = true := by
  refine Bool.not_eq_false _ ▸ fun empty => ?_
  rw [Route.subscribes_of_empty empty h] at here
  cases here

/-! ## What is owed after an operation -/

theorem Source.OwesNothing.owe {h : HostId} (nothing : src.OwesNothing h) (down : up h = false)
    (kind : AttentionKind) : (src.owe route up kind).OwesNothing h :=
  ⟨by rw [Source.owe_owed, down, Bool.and_false]; exact nothing.owed, nothing.forced⟩

theorem Source.OwesNothing.of_state {h : HostId} (nothing : src.OwesNothing h) (st : SourceState) :
    ({ src with state := st } : Source).OwesNothing h := ⟨nothing.owed, nothing.forced⟩

theorem Source.OwesNothing.release {h : HostId} (nothing : src.OwesNothing h) (down : up h = false) :
    (src.release route up).OwesNothing h := by
  rcases src.release_cases route up with ⟨-, -, e⟩ | ⟨-, e⟩ <;> rw [e]
  · exact (nothing.of_state _).owe down _
  · exact nothing.of_state _

theorem Source.OwesUp.of_state (owes : src.OwesUp up) (st : SourceState) :
    ({ src with state := st } : Source).OwesUp up := fun h down => (owes h down).of_state st

theorem Source.OwesUp.of_line (owes : src.OwesUp up) (level : Bool) :
    ({ src with line := level } : Source).OwesUp up := fun h down => ⟨(owes h down).owed, (owes h down).forced⟩

theorem Source.OwesUp.owe (owes : src.OwesUp up) (kind : AttentionKind) : (src.owe route up kind).OwesUp up :=
  fun h down => (owes h down).owe down kind

theorem Source.OwesUp.release (owes : src.OwesUp up) : (src.release route up).OwesUp up :=
  fun h down => (owes h down).release down

theorem Source.OwesUp.cancelOwed (owes : src.OwesUp up) : src.cancelOwed.OwesUp up :=
  fun h down => ⟨src.cancelOwed_owed h, (owes h down).forced⟩

/-- A forced-release entry is owed to a host that is UP (R92). -/
theorem Source.OwesUp.oweForced (owes : src.OwesUp up) {holder : HostId} (here : up holder = true) (cause : Cause) :
    (src.oweForced holder cause).OwesUp up := by
  refine fun h down => ⟨(owes h down).owed, ?_⟩
  have other : h ≠ holder := by
    rintro rfl
    cases here.symm.trans down
  rw [Source.oweForced_forced, if_neg other]
  exact (owes h down).forced

/-- A raise gives a sound source where the line is active and there is a subscriber (R93). -/
theorem Source.raise_sound (line : src.line = true) (served : route.hasSubscriber = true) :
    (src.raise route up).Sound route up :=
  (Source.sound_raised (src.raise_state route up)).2 ⟨line, served, Nat.zero_le 6⟩

theorem Source.Fits.raise (line : src.line = true) (served : route.hasSubscriber = true) (owes : src.OwesUp up) :
    (src.raise route up).Fits route up :=
  ⟨Source.raise_sound line served, (owes.of_state _).owe _⟩

/-- A release gives a sound source from any state (R97). -/
theorem Source.release_sound (src : Source) (route : Route) (up : HostId → Bool) :
    (src.release route up).Sound route up := by
  rcases src.release_cases route up with ⟨line, served, e⟩ | ⟨ends, e⟩ <;> rw [e]
  · exact Source.raise_sound line served
  · exact (Source.sound_idle rfl).2 ends

theorem Source.Fits.release (owes : src.OwesUp up) : (src.release route up).Fits route up :=
  ⟨src.release_sound route up, owes.release⟩

/-- A source at another level of its line is sound where an IDLE one needs no raise and a RAISED one has its line active
(R93). -/
theorem Source.Sound.of_line {src' : Source} (sound : src.Sound route up) (same : src'.state = src.state)
    (idle : src.state = .idle → src'.line = true → route.hasSubscriber = false)
    (raised : ∀ round timer, src.state = .raised round timer → src'.line = true) : src'.Sound route up := by
  cases st : src.state with
  | idle => exact (Source.sound_idle (same.trans st)).2 (idle st)
  | raised round timer =>
    obtain ⟨-, rest⟩ := (Source.sound_raised st).1 sound
    exact (Source.sound_raised (same.trans st)).2 ⟨raised round timer st, rest⟩
  | claimed holder timer => exact (Source.sound_claimed (same.trans st)).2 ((Source.sound_claimed st).1 sound)
  | stuck => exact (Source.sound_stuck (same.trans st)).2 ((Source.sound_stuck st).1 sound)

/-- A source is sound with other ports UP, where its holder is (R90). -/
theorem Source.Sound.of_up (sound : src.Sound route up) {up' : HostId → Bool}
    (held : ∀ holder timer, src.state = .claimed holder timer → up holder = true → up' holder = true) :
    src.Sound route up' := by
  cases st : src.state with
  | claimed holder timer =>
    obtain ⟨here, subscribed⟩ := (Source.sound_claimed st).1 sound
    exact (Source.sound_claimed st).2 ⟨held holder timer st here, subscribed⟩
  | idle => exact (Source.sound_idle st).2 ((Source.sound_idle st).1 sound)
  | raised => exact (Source.sound_raised st).2 ((Source.sound_raised st).1 sound)
  | stuck => exact (Source.sound_stuck st).2 ((Source.sound_stuck st).1 sound)

/-! ## Rounds after an operation -/

theorem Source.RoundsWithin.owe (within : src.RoundsWithin) {kind : AttentionKind} (low : kind.round ≤ 6) :
    (src.owe route up kind).RoundsWithin := by
  refine ⟨within.raised, fun h entry mem => ?_⟩
  rw [Source.owe_owed] at mem
  split at mem
  · cases mem
    exact low
  · exact within.owed h entry mem

/-- Another state keeps the rounds within, where its own round is. -/
theorem Source.RoundsWithin.of_state (within : src.RoundsWithin) {st : SourceState}
    (low : ∀ round timer, st = .raised round timer → round ≤ 6) : ({ src with state := st } : Source).RoundsWithin :=
  ⟨low, within.owed⟩

theorem Source.RoundsWithin.raise (within : src.RoundsWithin) : (src.raise route up).RoundsWithin := by
  refine Source.RoundsWithin.owe (within.of_state fun round timer st => ?_) (Nat.zero_le 6)
  cases st
  exact Nat.zero_le 6

theorem Source.RoundsWithin.release (within : src.RoundsWithin) : (src.release route up).RoundsWithin := by
  rcases src.release_cases route up with ⟨-, -, e⟩ | ⟨-, e⟩ <;> rw [e]
  · exact within.raise
  · exact within.of_state (by simp)

theorem Source.RoundsWithin.cancelOwed (within : src.RoundsWithin) : src.cancelOwed.RoundsWithin := by
  refine ⟨within.raised, fun h entry mem => ?_⟩
  rw [Source.cancelOwed_owed] at mem
  cases mem

/-- The rounds stay within where the entry of one host is set to one within. -/
theorem Source.RoundsWithin.of_owed (within : src.RoundsWithin) {h : HostId} {owed : Option OwedEntry}
    (low : ∀ entry ∈ owed, entry.kind.round ≤ 6) {forced : Vector (Option Cause) 4} :
    ({ src with owed := src.owed.set h owed, forced := forced } : Source).RoundsWithin := by
  refine ⟨within.raised, fun g entry mem => ?_⟩
  rw [getElem_set_fin] at mem
  split at mem
  · exact low entry mem
  · exact within.owed g entry mem

/-- The round that a source tells a host that comes to it is the round of its state (R106, R108). -/
theorem Source.RoundsWithin.catchUpKind (within : src.RoundsWithin) {kind : AttentionKind}
    (tells : src.catchUpKind = some kind) : kind.round ≤ 6 := by
  unfold Source.catchUpKind at tells
  split at tells <;> cases tells
  · exact Nat.zero_le 6
  · exact within.raised _ _ ‹_›
  · exact Nat.zero_le 6

end Sound

/-! ## Operations under one route -/

/-- `src'` is what an operation leaves of `src` while its route and the ports stay: it agrees with them if `src` did, its
rounds lie within their bounds if those of `src` did, and its line is as it was. -/
structure Source.Follows (route : Route) (up : HostId → Bool) (src' src : Source) : Prop where
  fits : src.Fits route up → src'.Fits route up
  rounds : src.RoundsWithin → src'.RoundsWithin
  line : src'.line = src.line

section Follows

variable {route : Route} {up : HostId → Bool}

theorem Source.Follows.refl (src : Source) : src.Follows route up src := ⟨id, id, rfl⟩

theorem Source.Follows.trans {src src' src'' : Source} (second : src''.Follows route up src')
    (first : src'.Follows route up src) : src''.Follows route up src :=
  ⟨second.fits ∘ first.fits, second.rounds ∘ first.rounds, second.line.trans first.line⟩

variable (src : Source)

/-- A grant goes to a subscriber that is UP (R94). -/
theorem Source.grant_follows {h : HostId} (here : up h = true) (subscribed : route.subscribes h = true) :
    (src.grant route h).Follows route up src where
  fits fits := ⟨(Source.sound_claimed rfl).2 ⟨here, subscribed⟩, (fits.owes.of_state _).cancelOwed⟩
  rounds within := (within.of_state (by simp)).cancelOwed
  line := rfl

theorem Source.release_follows : (src.release route up).Follows route up src :=
  ⟨fun fits => .release fits.owes, .release, src.release_line route up⟩

theorem Source.rearm_follows : (src.rearm route up).Follows route up src := by
  unfold Source.rearm
  split
  · exact ⟨fun fits => .release fits.owes.cancelOwed, fun within => within.cancelOwed.release,
      src.cancelOwed.release_line route up⟩
  · exact .refl src

/-- A round stays below a repeat limit of at most 7 (R100). -/
theorem Source.claimTimeout_follows (limit : route.repeatLimit ≤ 7) :
    (src.claimTimeout route up).Follows route up src := by
  unfold Source.claimTimeout
  split
  · next round raised =>
    split
    · next below =>
      have low : round + 1 ≤ 6 := by omega
      refine ⟨fun fits => ⟨?_, (fits.owes.of_state _).owe _⟩, fun within => ?_, rfl⟩
      · obtain ⟨line, served, -⟩ := (Source.sound_raised raised).1 fits.sound
        exact (Source.sound_raised rfl).2 ⟨line, served, low⟩
      · refine Source.RoundsWithin.owe (within.of_state fun _ _ st => ?_) low
        cases st
        exact low
    · refine ⟨fun fits => ⟨?_, (fits.owes.of_state _).owe _⟩, fun within => ?_, rfl⟩
      · obtain ⟨-, served, -⟩ := (Source.sound_raised raised).1 fits.sound
        exact (Source.sound_stuck rfl).2 served
      · exact Source.RoundsWithin.owe (within.of_state (by simp)) (Nat.zero_le 6)
  · exact .refl src

/-- A forced release is owed to the holder, which is UP (R90, R103). -/
theorem Source.holdTimeout_follows : (src.holdTimeout route up).Follows route up src := by
  unfold Source.holdTimeout
  split
  · next holder held =>
    refine ⟨fun fits => .release (fits.owes.oweForced ?_ _), fun within => ?_, Source.release_line _ route up⟩
    · exact ((Source.sound_claimed held).1 fits.sound).1
    · exact Source.RoundsWithin.release (src := src.oweForced holder .holdExpired) ⟨within.raised, within.owed⟩
  · exact .refl src

theorem Source.expireDue_follows (limit : route.repeatLimit ≤ 7) : (src.expireDue route up).Follows route up src :=
  (Source.holdTimeout_follows _).trans (src.claimTimeout_follows limit)

/-- A tick changes a timer only (R150). -/
theorem Source.tick_follows : src.tick.Follows route up src := by
  unfold Source.tick
  split
  · next raised =>
    refine ⟨fun fits => ⟨?_, fits.owes.of_state _⟩, fun within => within.of_state fun _ _ st => ?_, rfl⟩
    · exact (Source.sound_raised rfl).2 ((Source.sound_raised raised).1 fits.sound)
    · cases st
      exact within.raised _ _ raised
  · next claimed =>
    refine ⟨fun fits => ⟨?_, fits.owes.of_state _⟩, fun within => within.of_state (by simp), rfl⟩
    exact (Source.sound_claimed rfl).2 ((Source.sound_claimed claimed).1 fits.sound)
  · exact .refl src

/-- The owed entry of a host is delivered (R117). -/
theorem Source.delivered_follows (h : HostId) :
    ({ src with owed := src.owed.set h none } : Source).Follows route up src where
  fits fits := by
    refine ⟨fits.sound, fun g down => ⟨?_, (fits.owes g down).forced⟩⟩
    rw [getElem_set_fin, (fits.owes g down).owed, ite_self]
  rounds within := within.of_owed (by simp)
  line := rfl

/-- The forced-release entry of a host is delivered (R117). -/
theorem Source.forcedDelivered_follows (h : HostId) :
    ({ src with forced := src.forced.set h none } : Source).Follows route up src where
  fits fits := by
    refine ⟨fits.sound, fun g down => ⟨(fits.owes g down).owed, ?_⟩⟩
    rw [getElem_set_fin, (fits.owes g down).forced, ite_self]
  rounds within := ⟨within.raised, within.owed⟩
  line := rfl

end Follows

/-! ## The line -/

section Line

variable {src : Source} {route : Route} {up : HostId → Bool}

@[simp] theorem Source.lineActive_line (src : Source) (route : Route) (up : HostId → Bool) :
    (src.lineActive route up).line = true := by
  unfold Source.lineActive
  dsimp only
  split <;> rfl

@[simp] theorem Source.lineInactive_line (src : Source) : src.lineInactive.line = false := by
  unfold Source.lineInactive
  dsimp only
  split <;> rfl

/-- The line becomes active: an IDLE source with a subscriber is raised (R93). -/
theorem Source.Fits.lineActive (fits : src.Fits route up) : (src.lineActive route up).Fits route up := by
  unfold Source.lineActive
  dsimp only
  split
  · next raises => exact .raise rfl raises.2 (fits.owes.of_line true)
  · next stays =>
    exact ⟨fits.sound.of_line rfl (fun idle _ => by simpa [idle] using stays) fun _ _ _ => rfl, fits.owes.of_line true⟩

/-- The line becomes inactive: a RAISED source returns to IDLE (R93). -/
theorem Source.Fits.lineInactive (fits : src.Fits route up) : src.lineInactive.Fits route up := by
  unfold Source.lineInactive
  dsimp only
  split
  · exact ⟨(Source.sound_idle rfl).2 (by simp [Source.cancelOwed]),
      ((fits.owes.of_line false).of_state .idle).cancelOwed⟩
  · next notRaised =>
    exact ⟨fits.sound.of_line rfl (fun _ => by simp) fun _ _ raised => absurd raised (notRaised _ _),
      fits.owes.of_line false⟩

theorem Source.RoundsWithin.lineActive (within : src.RoundsWithin) : (src.lineActive route up).RoundsWithin := by
  unfold Source.lineActive
  dsimp only
  split
  · exact Source.RoundsWithin.raise (src := { src with line := true }) ⟨within.raised, within.owed⟩
  · exact ⟨within.raised, within.owed⟩

theorem Source.RoundsWithin.lineInactive (within : src.RoundsWithin) : src.lineInactive.RoundsWithin := by
  unfold Source.lineInactive
  dsimp only
  split
  · exact Source.RoundsWithin.cancelOwed (src := { src with line := false, state := .idle }) ⟨by simp, within.owed⟩
  · exact ⟨within.raised, within.owed⟩

end Line

/-! ## The reset of a port and its return -/

section Port

variable {src : Source} {route : Route} {up : HostId → Bool} {h : HostId}

/-- The entries of a host are dropped (R107). -/
theorem Source.OwesUp.drop {up' : HostId → Bool} (owes : ∀ g, g ≠ h → up' g = false → src.OwesNothing g) :
    ({ src with owed := src.owed.set h none, forced := src.forced.set h none } : Source).OwesUp up' := by
  intro g down
  by_cases same : g = h
  · constructor <;> simp only [getElem_set_fin, same, if_true]
  · obtain ⟨owed, forced⟩ := owes g same down
    constructor <;> simpa only [getElem_set_fin, same, if_false]

/-- The port reset of a host gives up its claim and drops its entries (R107). -/
theorem Source.Fits.portReset (fits : src.Fits route up) {up' : HostId → Bool}
    (others : ∀ g, g ≠ h → up' g = up g) : (src.portReset route up' h).Fits route up' := by
  have owes (g : HostId) (other : g ≠ h) (down : up' g = false) : src.OwesNothing g :=
    fits.owes g ((others g other).symm.trans down)
  unfold Source.portReset
  dsimp only
  split
  · exact ⟨src.release_sound route up', .drop fun g other down => (owes g other down).release down⟩
  · next free =>
    refine ⟨fits.sound.of_up fun holder timer held here => ?_, .drop owes⟩
    have other : holder ≠ h := fun same => free (Source.isHeldBy_iff.2 ⟨timer, same ▸ held⟩)
    exact (others holder other).trans here

theorem Source.RoundsWithin.portReset (within : src.RoundsWithin) : (src.portReset route up h).RoundsWithin := by
  unfold Source.portReset
  dsimp only
  split
  · exact within.release.of_owed (by simp)
  · exact within.of_owed (by simp)

/-- A returning host is owed the entry for the state of the source (R108). -/
theorem Source.Fits.portReturn (fits : src.Fits route up) {up' : HostId → Bool} (here : up' h = true)
    (others : ∀ g, g ≠ h → up' g = up g) : (src.portReturn route h).Fits route up' := by
  have sound : src.Sound route up' := fits.sound.of_up fun holder _ _ up => by
    by_cases same : holder = h
    · exact same ▸ here
    · exact (others holder same).trans up
  have owes (g : HostId) (down : up' g = false) : g ≠ h ∧ src.OwesNothing g := by
    have other : g ≠ h := by
      rintro rfl
      cases here.symm.trans down
    exact ⟨other, fits.owes g ((others g other).symm.trans down)⟩
  unfold Source.portReturn
  split
  · exact ⟨sound, fun g down => (owes g down).2⟩
  · split
    · refine ⟨sound, fun g down => ?_⟩
      obtain ⟨other, owed, forced⟩ := owes g down
      exact ⟨by simpa only [getElem_set_fin, other, if_false], forced⟩
    · exact ⟨sound, fun g down => (owes g down).2⟩

theorem Source.RoundsWithin.portReturn (within : src.RoundsWithin) : (src.portReturn route h).RoundsWithin := by
  unfold Source.portReturn
  split
  · exact within
  · next kind tells =>
    split
    · refine within.of_owed fun entry eq => ?_
      cases eq
      exact within.catchUpKind tells
    · exact within

@[simp] theorem Source.portReset_line (src : Source) (route : Route) (up : HostId → Bool) (h : HostId) :
    (src.portReset route up h).line = src.line := by
  unfold Source.portReset
  dsimp only
  split
  · exact src.release_line route up
  · rfl

@[simp] theorem Source.portReturn_line (src : Source) (route : Route) (h : HostId) :
    (src.portReturn route h).line = src.line := by
  unfold Source.portReturn
  split
  · rfl
  · split <;> rfl

end Port

end Sys2Proof.Machine
end

section
/-!
PROOFS. The route change of one source: the four things that it can do, and that it leaves the source in agreement with
its new route.
-/

namespace Sys2Proof.Machine

open Sys2Proof.Statements

/-! ## What a route change does -/

/-- A route change from `old` to `new` removes host `h` (R104). -/
def Route.removes (old new : Route) (h : HostId) : Bool := old.subscribes h && !new.subscribes h

/-- The source is claimed by a host that a route change removes (R104). -/
def Source.loses (src : Source) (old new : Route) : Bool :=
  match src.state with
  | .claimed holder _ => old.removes new holder
  | _ => false

/-- The entries of a source after the removals of a route change: the hosts removed are owed no attention entry, and the
holder among them is owed its forced release (R104). -/
def Source.moved (src : Source) (old new : Route) : Source :=
  { src with
    owed := Vector.ofFn fun h => if old.removes new h then none else src.owed[h]
    forced := Vector.ofFn fun h =>
      if old.removes new h && src.isHeldBy h then some .routeChanged else src.forced[h] }

/-- The source with an entry of this kind owed to each host that a route change adds and that is UP (R106). -/
def Source.informed (src : Source) (old new : Route) (up : HostId → Bool) (kind : AttentionKind) : Source :=
  { src with
    owed := Vector.ofFn fun h =>
      if !old.subscribes h && new.subscribes h && up h then some { kind := kind, priority := new.priority }
      else src.owed[h] }

/-- The route change raises the source anew: its line is active, there is a subscriber, and it was claimed by a host
removed, or IDLE without a subscriber (R97, R104, R106). -/
def Source.raisedAnew (src : Source) (old new : Route) : Bool :=
  src.line && new.hasSubscriber && (src.loses old new || (decide (src.state = .idle) && !old.hasSubscriber))

/-- The route change leaves the source IDLE where it does not raise it: it was claimed by a host removed, or it was
RAISED or STUCK and its last subscriber is removed (R97, R104, R105). -/
def Source.falls (src : Source) (old new : Route) : Bool :=
  src.loses old new ||
    (src.catchUpKind.isSome && !new.hasSubscriber && decide (old.subscribers ≠ new.subscribers))

section RouteChange

variable {src : Source} {old new : Route} {up : HostId → Bool} {kind : AttentionKind}

theorem Route.removes_iff {h : HostId} :
    old.removes new h = true ↔ old.subscribes h = true ∧ new.subscribes h = false := by
  simp [Route.removes]

theorem Source.loses_iff :
    src.loses old new = true ↔ ∃ g timer, src.state = .claimed g timer ∧ old.removes new g = true := by
  unfold Source.loses
  cases src.state <;> simp

theorem Source.moved_owed (src : Source) (old new : Route) (g : HostId) :
    (src.moved old new).owed[g] = if old.removes new g then none else src.owed[g] := by
  simp [Source.moved]

theorem Source.moved_forced (src : Source) (old new : Route) (g : HostId) :
    (src.moved old new).forced[g] =
      if old.removes new g && src.isHeldBy g then some .routeChanged else src.forced[g] := by
  simp [Source.moved]

theorem Source.informed_owed (src : Source) (old new : Route) (up : HostId → Bool) (kind : AttentionKind) (g : HostId) :
    (src.informed old new up kind).owed[g] =
      if !old.subscribes g && new.subscribes g && up g then some { kind := kind, priority := new.priority }
      else src.owed[g] := by
  simp [Source.informed]

/-- Two sources with the same state and line and the same entries for each host are equal. -/
theorem Source.ext_hosts {src' : Source} (state : src'.state = src.state) (line : src'.line = src.line)
    (owed : ∀ g : HostId, src'.owed[g] = src.owed[g]) (forced : ∀ g : HostId, src'.forced[g] = src.forced[g]) :
    src' = src := by
  have owed : src'.owed = src.owed := Vector.ext fun i hi => owed ⟨i, hi⟩
  have forced : src'.forced = src.forced := Vector.ext fun i hi => forced ⟨i, hi⟩
  cases src'
  cases src
  simp_all

/-- A RAISED or STUCK source is claimed by no host. -/
theorem Source.loses_of_waiting (tells : src.catchUpKind = some kind) : src.loses old new = false := by
  rcases Source.catchUpKind_isSome.1 ⟨kind, tells⟩ with st | ⟨_, _, st⟩ <;> simp only [Source.loses, st]

/-- The removals leave a claim by a host that stays, and every other state (R104). -/
theorem Source.removeSubscribers_kept (kept : src.loses old new = false) :
    src.removeSubscribers old new up = src.moved old new := by
  have entries : { src with owed := Vector.ofFn fun h => if old.removes new h then none else src.owed[h] } =
      src.moved old new := by
    refine Source.ext_hosts rfl rfl (fun g => rfl) fun g => ?_
    rw [Source.moved_forced, if_neg]
    rw [Bool.and_eq_true]
    rintro ⟨removed, held⟩
    obtain ⟨timer, claimed⟩ := Source.isHeldBy_iff.1 held
    exact Bool.eq_false_iff.1 kept (Source.loses_iff.2 ⟨g, timer, claimed, removed⟩)
  refine Eq.trans ?_ entries
  unfold Source.removeSubscribers
  dsimp only
  split
  · next holder timer claimed =>
    exact if_neg fun removed => Bool.eq_false_iff.1 kept (Source.loses_iff.2 ⟨holder, timer, claimed, removed⟩)
  · rfl

/-- The removals release the claim of a host removed (R104). -/
theorem Source.removeSubscribers_lost (lost : src.loses old new = true) :
    src.removeSubscribers old new up = (src.moved old new).release new up := by
  obtain ⟨holder, timer, claimed, removed⟩ := Source.loses_iff.1 lost
  have released : src.removeSubscribers old new up =
      ({ src with owed := Vector.ofFn fun h => if old.removes new h then none else src.owed[h] }.oweForced holder
        .routeChanged).release new up := by
    simp only [Source.removeSubscribers, claimed]
    exact if_pos removed
  refine released.trans (congrArg (fun u => Source.release u new up) ?_)
  refine Source.ext_hosts rfl rfl (fun g => rfl) fun g => ?_
  rw [Source.oweForced_forced, Source.moved_forced]
  by_cases same : g = holder
  · rw [if_pos same, same, removed, Source.isHeldBy_iff.2 ⟨timer, claimed⟩]
    rfl
  · rw [if_neg same, if_neg]
    rw [Bool.and_eq_true, Source.isHeldBy_iff]
    rintro ⟨-, _, claimed'⟩
    cases claimed.symm.trans claimed'
    exact same rfl

/-- A RAISED or STUCK source is IDLE without a subscriber left (R105). -/
theorem Source.idleIfEmpty_waiting (tells : src.catchUpKind = some kind) :
    src.idleIfEmpty new = if new.hasSubscriber then src else { src with state := .idle } := by
  unfold Source.idleIfEmpty
  rcases Source.catchUpKind_isSome.1 ⟨kind, tells⟩ with st | ⟨_, _, st⟩ <;> simp only [st]

theorem Source.idleIfEmpty_quiet (quiet : src.catchUpKind = none) : src.idleIfEmpty new = src := by
  have waits (st : src.state = .stuck ∨ ∃ round timer, src.state = .raised round timer) : False := by
    obtain ⟨kind, tells⟩ := Source.catchUpKind_isSome.2 st
    cases quiet.symm.trans tells
  unfold Source.idleIfEmpty
  split
  · rfl
  · split
    · next raised => exact (waits (.inr ⟨_, _, raised⟩)).elim
    · next stuck => exact (waits (.inl stuck)).elim
    · rfl

theorem Source.catchUpKind_idle (idle : src.state = .idle) : src.catchUpKind = none := by
  simp only [Source.catchUpKind, idle]

/-- The additions of a route change to a RAISED or STUCK source (R106). -/
theorem Source.addSubscribers_waiting (tells : src.catchUpKind = some kind) :
    src.addSubscribers old new up = src.informed old new up kind := by
  have notIdle : src.state ≠ .idle := fun idle => by cases (Source.catchUpKind_idle idle).symm.trans tells
  simp only [Source.addSubscribers, notIdle, tells, if_false, Source.informed]

theorem Source.addSubscribers_idle (idle : src.state = .idle) :
    src.addSubscribers old new up =
      if src.line ∧ ¬ old.hasSubscriber ∧ new.hasSubscriber then src.raise new up else src := if_pos idle

theorem Source.addSubscribers_quiet (notIdle : src.state ≠ .idle) (quiet : src.catchUpKind = none) :
    src.addSubscribers old new up = src := by
  simp only [Source.addSubscribers, notIdle, quiet, if_false]

/-- A source just raised owes the added hosts their entries already (R97, R106). -/
theorem Source.informed_raise : (src.raise new up).informed old new up (.attention 0) = src.raise new up := by
  refine Source.ext_hosts rfl rfl (fun g => ?_) fun g => rfl
  rw [Source.informed_owed, Source.raise_owed]
  split
  · next added =>
    simp only [Bool.and_eq_true] at added
    rw [if_pos (by simp [added])]
  · rfl

/-- The route change of a source claimed by a host removed (R104). -/
theorem Source.routeChange_lost (changed : old.subscribers ≠ new.subscribers) (lost : src.loses old new = true) :
    src.routeChange old new up =
      if src.line = true ∧ new.hasSubscriber = true then (src.moved old new).raise new up
      else { src.moved old new with state := .idle } := by
  rw [Source.routeChange, if_neg changed, Source.removeSubscribers_lost lost, Source.release]
  split
  · next anew =>
    rw [Source.idleIfEmpty, if_pos anew.2, Source.addSubscribers_waiting rfl, Source.informed_raise]
    exact (if_pos anew).symm
  · next ends =>
    rw [Source.idleIfEmpty_quiet rfl, Source.addSubscribers_idle rfl, if_neg fun raises => ends ⟨raises.1, raises.2.2⟩]
    exact (if_neg ends).symm

/-- The route change of a RAISED or STUCK source (R105, R106). -/
theorem Source.routeChange_waiting (changed : old.subscribers ≠ new.subscribers) (tells : src.catchUpKind = some kind) :
    src.routeChange old new up =
      if new.hasSubscriber then (src.moved old new).informed old new up kind
      else { src.moved old new with state := .idle } := by
  rw [Source.routeChange, if_neg changed, Source.removeSubscribers_kept (Source.loses_of_waiting tells),
    Source.idleIfEmpty_waiting (src := src.moved old new) tells]
  split
  · exact Source.addSubscribers_waiting (src := src.moved old new) tells
  · next empty =>
    rw [Source.addSubscribers_idle rfl, if_neg]
    exact fun raises => empty raises.2.2

/-- The route change of an IDLE source, and of one claimed by a host that stays (R104, R106). -/
theorem Source.routeChange_quiet (changed : old.subscribers ≠ new.subscribers) (kept : src.loses old new = false)
    (quiet : src.catchUpKind = none) :
    src.routeChange old new up =
      if src.state = .idle ∧ src.line = true ∧ ¬ old.hasSubscriber = true ∧ new.hasSubscriber = true then
        (src.moved old new).raise new up
      else src.moved old new := by
  rw [Source.routeChange, if_neg changed, Source.removeSubscribers_kept kept,
    Source.idleIfEmpty_quiet (src := src.moved old new) quiet]
  by_cases idle : src.state = .idle
  · rw [Source.addSubscribers_idle (src := src.moved old new) idle]
    simp only [idle, true_and]
    rfl
  · rw [Source.addSubscribers_quiet (src := src.moved old new) idle quiet, if_neg fun raises => idle raises.1]

/-- A write that keeps the subscribers is no route change: no host is removed and none added (R143). -/
theorem Source.routeChange_same (same : old.subscribers = new.subscribers) :
    src.raisedAnew old new = false ∧ src.falls old new = false ∧ src.moved old new = src ∧
      src.moved old new = (src.moved old new).informed old new up kind ∧ src.routeChange old new up = src := by
  have hosts (g : HostId) : old.subscribes g = new.subscribes g := by simp only [Route.subscribes, same]
  have removes (g : HostId) : old.removes new g = false := by simp [Route.removes, hosts g]
  have kept : src.loses old new = false := by
    refine Bool.eq_false_iff.2 fun lost => ?_
    obtain ⟨g, -, -, removed⟩ := Source.loses_iff.1 lost
    cases (removes g).symm.trans removed
  refine ⟨?_, by simp [Source.falls, kept, same], ?_, ?_, if_pos same⟩
  · have served : old.hasSubscriber = new.hasSubscriber := by simp only [Route.hasSubscriber, same]
    cases here : new.hasSubscriber <;> simp [Source.raisedAnew, kept, served, here]
  · exact Source.ext_hosts rfl rfl (fun g => by rw [Source.moved_owed, removes g]; rfl)
      fun g => by rw [Source.moved_forced, removes g]; rfl
  · refine Eq.symm (Source.ext_hosts rfl rfl (fun g => ?_) fun g => rfl)
    rw [Source.informed_owed, hosts g, Bool.not_and_self, Bool.false_and]
    rfl

variable (src old new up) in
/-- The four things that a route change can do, and the entries and state after each (R104 to R106, R143). -/
theorem Source.routeChange_cases :
    (src.raisedAnew old new = true ∧ src.routeChange old new up = (src.moved old new).raise new up) ∨
    (src.raisedAnew old new = false ∧ src.falls old new = true ∧
      src.routeChange old new up = { src.moved old new with state := .idle }) ∨
    (src.raisedAnew old new = false ∧ src.falls old new = false ∧
      ∃ kind, src.catchUpKind = some kind ∧
        src.routeChange old new up = (src.moved old new).informed old new up kind) ∨
    (src.raisedAnew old new = false ∧ src.falls old new = false ∧ src.catchUpKind = none ∧
      src.routeChange old new up = src.moved old new) := by
  by_cases changed : old.subscribers = new.subscribers
  · cases tells : src.catchUpKind with
    | some kind =>
      obtain ⟨quiet, stays, moved, informed, e⟩ := Source.routeChange_same (kind := kind) changed
      exact .inr (.inr (.inl ⟨quiet, stays, kind, rfl, (e.trans moved.symm).trans informed⟩))
    | none =>
      obtain ⟨quiet, stays, moved, -, e⟩ := Source.routeChange_same (kind := .sourceStuck) changed
      exact .inr (.inr (.inr ⟨quiet, stays, rfl, e.trans moved.symm⟩))
  · cases lost : src.loses old new with
    | true =>
      rw [Source.routeChange_lost changed lost]
      have falls : src.falls old new = true := by simp [Source.falls, lost]
      split
      · next anew => exact .inl ⟨by simp [Source.raisedAnew, lost, anew], rfl⟩
      · next ends => exact .inr (.inl ⟨by simpa [Source.raisedAnew, lost] using ends, falls, rfl⟩)
    | false =>
      cases tells : src.catchUpKind with
      | some kind =>
        have quiet : src.raisedAnew old new = false := by
          have notIdle : src.state ≠ .idle := fun idle => by cases (Source.catchUpKind_idle idle).symm.trans tells
          simp [Source.raisedAnew, lost, notIdle]
        rw [Source.routeChange_waiting changed tells]
        split
        · next served => exact .inr (.inr (.inl ⟨quiet, by simp [Source.falls, lost, served], kind, rfl, rfl⟩))
        · next empty => exact .inr (.inl ⟨quiet, by simp [Source.falls, lost, empty, tells, changed], rfl⟩)
      | none =>
        rw [Source.routeChange_quiet changed lost tells]
        split
        · next raises => exact .inl ⟨by simp [Source.raisedAnew, lost, raises], rfl⟩
        · next stays =>
          refine .inr (.inr (.inr ⟨?_, by simp [Source.falls, lost, tells], rfl, rfl⟩))
          refine Bool.eq_false_iff.2 fun anew => stays ?_
          obtain ⟨⟨line, served⟩, idle, empty⟩ : (src.line = true ∧ new.hasSubscriber = true) ∧ src.state = .idle ∧
              old.hasSubscriber = false := by
            simpa [Source.raisedAnew, lost] using anew
          exact ⟨idle, line, Bool.eq_false_iff.1 empty, served⟩

end RouteChange

/-! ## What a route change keeps -/

section Kept

variable {src : Source} {old new : Route} {up : HostId → Bool}

@[simp] theorem Source.routeChange_line (src : Source) (old new : Route) (up : HostId → Bool) :
    (src.routeChange old new up).line = src.line := by
  rcases src.routeChange_cases old new up with ⟨-, e⟩ | ⟨-, -, e⟩ | ⟨-, -, _, -, e⟩ | ⟨-, -, -, e⟩ <;> rw [e] <;> rfl

/-- A forced release is owed to a holder, which is UP (R90, R104). -/
theorem Source.Fits.moved (fits : src.Fits old up) : (src.moved old new).OwesUp up := by
  intro g down
  obtain ⟨owed, forced⟩ := fits.owes g down
  refine ⟨by rw [Source.moved_owed, owed, ite_self], ?_⟩
  rw [Source.moved_forced, if_neg]
  · exact forced
  · rw [Bool.and_eq_true, Source.isHeldBy_iff]
    rintro ⟨-, timer, claimed⟩
    cases down.symm.trans ((Source.sound_claimed claimed).1 fits.sound).1

theorem Source.RoundsWithin.moved (within : src.RoundsWithin) : (src.moved old new).RoundsWithin := by
  refine ⟨within.raised, fun g entry mem => ?_⟩
  rw [Source.moved_owed] at mem
  split at mem
  · cases mem
  · exact within.owed g entry mem

/-- Where a route change does not raise the source anew, an IDLE source with its line active is left no subscriber
(R93, R106). -/
theorem Source.Fits.routeChange_idle (fits : src.Fits old up) (quiet : src.raisedAnew old new = false)
    (idle : src.falls old new = true ∨ src.state = .idle) (line : src.line = true) : new.hasSubscriber = false := by
  refine Bool.eq_false_iff.2 fun served => Bool.eq_false_iff.1 quiet ?_
  rcases idle with falls | idle
  · have lost : src.loses old new = true := by simpa [Source.falls, served] using falls
    simp [Source.raisedAnew, line, served, lost]
  · simp [Source.raisedAnew, line, served, idle, (Source.sound_idle idle).1 fits.sound line]

/-- A RAISED or STUCK source that a route change leaves so has a subscriber (R105). -/
theorem Source.Fits.routeChange_waiting (fits : src.Fits old up) {kind : AttentionKind}
    (tells : src.catchUpKind = some kind) (stays : src.falls old new = false) : src.Sound new up := by
  have before : old.hasSubscriber = true := by
    rcases Source.catchUpKind_isSome.1 ⟨kind, tells⟩ with st | ⟨_, _, st⟩
    · exact (Source.sound_stuck st).1 fits.sound
    · exact ((Source.sound_raised st).1 fits.sound).2.1
  have served : new.hasSubscriber = true := by
    by_contra empty
    have empty' : new.hasSubscriber = false := Bool.eq_false_iff.2 empty
    have same : old.subscribers = new.subscribers := by
      simpa [Source.falls, tells, empty', Source.loses_of_waiting tells] using stays
    exact empty (by simpa only [Route.hasSubscriber, same] using before)
  rcases Source.catchUpKind_isSome.1 ⟨kind, tells⟩ with st | ⟨_, _, st⟩
  · exact (Source.sound_stuck st).2 served
  · obtain ⟨line, -, low⟩ := (Source.sound_raised st).1 fits.sound
    exact (Source.sound_raised st).2 ⟨line, served, low⟩

/-- A source that a route change leaves IDLE or CLAIMED agrees with the new route (R104, R106). -/
theorem Source.Fits.routeChange_quiet (fits : src.Fits old up) (quiet : src.raisedAnew old new = false)
    (stays : src.falls old new = false) (tells : src.catchUpKind = none) : src.Sound new up := by
  have waits (st : src.state = .stuck ∨ ∃ round timer, src.state = .raised round timer) : False := by
    obtain ⟨kind, tells'⟩ := Source.catchUpKind_isSome.2 st
    cases tells.symm.trans tells'
  cases st : src.state with
  | idle => exact (Source.sound_idle st).2 (fits.routeChange_idle quiet (.inr st))
  | raised round timer => exact (waits (.inr ⟨round, timer, st⟩)).elim
  | stuck => exact (waits (.inl st)).elim
  | claimed holder timer =>
    obtain ⟨here, subscribed⟩ := (Source.sound_claimed st).1 fits.sound
    have kept : old.removes new holder = false := by
      simpa [Source.falls, Source.loses, st, tells] using stays
    exact (Source.sound_claimed st).2 ⟨here, by simpa [Route.removes, subscribed] using kept⟩

/-- A route change leaves the source in agreement with the new route (R104 to R106). -/
theorem Source.Fits.routeChange (fits : src.Fits old up) : (src.routeChange old new up).Fits new up := by
  have owes := fits.moved (new := new)
  rcases src.routeChange_cases old new up with
    ⟨anew, e⟩ | ⟨quiet, falls, e⟩ | ⟨-, stays, kind, tells, e⟩ | ⟨quiet, stays, tells, e⟩ <;> rw [e]
  · obtain ⟨⟨line, served⟩, -⟩ : (src.line = true ∧ new.hasSubscriber = true) ∧ _ := by
      simpa [Source.raisedAnew] using anew
    exact .raise line served owes
  · exact ⟨(Source.sound_idle rfl).2 (fits.routeChange_idle quiet (.inl falls)), owes.of_state .idle⟩
  · refine ⟨fits.routeChange_waiting tells stays, fun g down => ⟨?_, (owes g down).forced⟩⟩
    rw [Source.informed_owed, down, Bool.and_false]
    exact (owes g down).owed
  · exact ⟨fits.routeChange_quiet quiet stays tells, owes⟩

theorem Source.RoundsWithin.routeChange (within : src.RoundsWithin) : (src.routeChange old new up).RoundsWithin := by
  rcases src.routeChange_cases old new up with ⟨-, e⟩ | ⟨-, -, e⟩ | ⟨-, -, kind, tells, e⟩ | ⟨-, -, -, e⟩ <;> rw [e]
  · exact within.moved.raise
  · exact within.moved.of_state (by simp)
  · refine ⟨within.raised, fun g entry mem => ?_⟩
    rw [Source.informed_owed] at mem
    split at mem
    · cases mem
      exact within.catchUpKind tells
    · exact within.moved.owed g entry mem
  · exact within.moved

end Kept

end Sys2Proof.Machine
end

section
/-!
PROOFS. What one event can do to the attention sources, the ports and their notice queues. `State.Evolves` says what
every event keeps of them. It is shown here for the requests of hosts; an operation that leaves the parts of `Desk` as
they are needs no more than that.
-/

namespace Sys2Proof.Machine

open Sys2Proof.Statements

/-! ## One port -/

/-- The queue holds at most 8 notices, in order of priority (R113). -/
def Port.QueueSound (p : Port) : Prop :=
  p.queue.length ≤ Config.queuePlaces ∧ p.queue.Pairwise fun a b => b.priority ≤ a.priority

/-- `p'` is what an event leaves of port `p`, GRST going from `grst` to `grst'`: it is UP as R161 gives, its queue is
sound, and its notice line is as R123 gives, each if it was so for `p`. -/
structure Port.Evolves (grst grst' : Bool) (p' p : Port) : Prop where
  level : p.up = (!p.prst && !grst) → p'.up = (!p'.prst && !grst')
  queue : p.QueueSound → p'.QueueSound
  line : p.nline = p.lineLevel → p'.nline = p'.lineLevel

/-- The levels, the queue and the notice line of a port stay. -/
structure Port.Stays (p' p : Port) : Prop where
  up : p'.up = p.up
  prst : p'.prst = p.prst
  threshold : p'.threshold = p.threshold
  nline : p'.nline = p.nline
  queue : p'.queue = p.queue

section Port

variable {p p' p'' : Port} {grst grst' grst'' : Bool}

/-- The line's level as R123 says it. -/
theorem Port.lineLevel_iff :
    p.nline = p.lineLevel ↔ (p.nline = true ↔ p.up = true ∧ ∃ n ∈ p.queue, p.threshold ≤ n.priority) := by
  rw [Bool.eq_iff_iff]
  simp [Port.lineLevel]

theorem Port.Evolves.refl (p : Port) : p.Evolves grst grst p := ⟨id, id, id⟩

theorem Port.Evolves.trans (second : p''.Evolves grst' grst'' p') (first : p'.Evolves grst grst' p) :
    p''.Evolves grst grst'' p :=
  ⟨second.level ∘ first.level, second.queue ∘ first.queue, second.line ∘ first.line⟩

theorem Port.Stays.refl (p : Port) : p.Stays p := ⟨rfl, rfl, rfl, rfl, rfl⟩

theorem Port.Stays.evolves (stays : p'.Stays p) : p'.Evolves grst grst p where
  level := by rw [stays.up, stays.prst]; exact id
  queue := by simp only [Port.QueueSound, stays.queue, imp_self]
  line := by simp only [Port.lineLevel, stays.nline, stays.up, stays.queue, stays.threshold, imp_self]

/-- A port whose notice line is evaluated afresh, with the levels it had and a sound queue (R123). -/
theorem Port.Evolves.evalLine (up : p'.up = p.up) (prst : p'.prst = p.prst) (queue : p.QueueSound → p'.QueueSound) :
    p'.evalLine.Evolves grst grst p where
  level level := by
    show p'.up = (!p'.prst && !grst)
    rw [up, prst, level]
  queue := queue
  line _ := rfl

/-- A notice is inserted in order of priority (R113). -/
theorem insertNotice_pairwise {n : Notice} {q : List Notice} (order : q.Pairwise fun a b => b.priority ≤ a.priority) :
    (insertNotice n q).Pairwise fun a b => b.priority ≤ a.priority := by
  induction q with
  | nil => exact List.pairwise_singleton _ n
  | cons m q ih =>
    obtain ⟨head, tail⟩ := List.pairwise_cons.1 order
    unfold insertNotice
    split
    · next below =>
      refine List.pairwise_cons.2 ⟨fun x mem => ?_, order⟩
      rcases List.mem_cons.1 mem with rfl | mem
      · exact BitVec.le_of_lt below
      · exact BitVec.le_trans (head x mem) (BitVec.le_of_lt below)
    · next notBelow =>
      refine List.pairwise_cons.2 ⟨fun x mem => ?_, ih tail⟩
      rcases mem_insertNotice.1 mem with rfl | mem
      · exact BitVec.not_lt.1 notBelow
      · exact head x mem

/-- A notice is placed in a queue with room (R113, R116). -/
theorem Port.placeNotice_evolves (room : p.queue.length < 8) (priority : BitVec 2) (body : NoticeBody) :
    (p.placeNotice priority body).Evolves grst grst p :=
  .evalLine rfl rfl fun sound => ⟨(insertNotice_length _ _).trans_le room, insertNotice_pairwise sound.2⟩

end Port

/-! ## The invariants in terms of one source and one port -/

theorem State.sourcesSound_iff {s : State} :
    s.SourcesSound ↔
      (∀ n, (s.source n).Fits (s.cfg.route n) s.upSet) ∧
      (s.grst = false → ∀ n : SourceId, (s.source n).line = s.patn[n]) ∧
      (s.grst = true → (∀ h : HostId, (s.port h).up = false) ∧ ∀ n : SourceId, (s.cfg.route n).hasSubscriber = false) := by
  constructor
  · rintro ⟨sound, owes, rest⟩
    exact ⟨fun n => ⟨sound n, fun h down => ⟨(owes n h down).1, (owes n h down).2⟩⟩, rest⟩
  · rintro ⟨fits, rest⟩
    exact ⟨fun n => (fits n).sound, fun n h down => ⟨((fits n).owes h down).owed, ((fits n).owes h down).forced⟩, rest⟩

theorem State.roundsWithin_iff {s : State} :
    s.RoundsWithin ↔
      (∀ n, (s.source n).RoundsWithin) ∧ ∀ h : HostId, ∀ m ∈ (s.port h).queue, m.body.round ≤ 6 := by
  constructor
  · rintro ⟨sources, queues⟩
    exact ⟨fun n => ⟨(sources n).1, (sources n).2⟩, queues⟩
  · rintro ⟨sources, queues⟩
    exact ⟨fun n => ⟨(sources n).raised, (sources n).owed⟩, queues⟩

/-- `t` is what an event leaves of `s`: each port evolves, and sources and rounds are sound if they were. -/
structure State.Evolves (s t : State) : Prop where
  ports : ∀ h, (t.port h).Evolves s.grst t.grst (s.port h)
  sources : s.SourcesSound → t.SourcesSound
  rounds : s.RoundsWithin → t.RoundsWithin

/-- The parts of a state that the attention, notice and port units read and change. -/
structure Desk where
  sources : Vector Source 8
  ports : Vector Port 4
  cfg : ConfigSet
  grst : Bool
  patn : Vector Bool 8

/-- These parts of a state. -/
def State.desk (s : State) : Desk where
  sources := s.sources
  ports := s.ports
  cfg := s.cfg
  grst := s.grst
  patn := s.patn

section Evolves

variable {s t u : State}

theorem State.Evolves.refl (s : State) : s.Evolves s := ⟨fun _ => .refl _, id, id⟩

theorem State.Evolves.trans (first : s.Evolves t) (second : t.Evolves u) : s.Evolves u :=
  ⟨fun h => (second.ports h).trans (first.ports h), second.sources ∘ first.sources, second.rounds ∘ first.rounds⟩

/-- An event while GRST stays, part by part: ports, queues and sources each alone; and while GRST is asserted, with every
port DOWN, neither the ports UP nor the routes change. -/
theorem State.Evolves.of_parts (grst : t.grst = s.grst) (patn : t.patn = s.patn)
    (ports : ∀ h, (t.port h).Evolves s.grst s.grst (s.port h))
    (queues : ∀ h, ∀ m ∈ (t.port h).queue, m ∈ (s.port h).queue)
    (line : ∀ n, (t.source n).line = (s.source n).line)
    (fits : ∀ n, (s.source n).Fits (s.cfg.route n) s.upSet → (t.source n).Fits (t.cfg.route n) t.upSet)
    (rounds : ∀ n, (s.source n).RoundsWithin → (t.source n).RoundsWithin)
    (reset : s.grst = true → (∀ h, (s.port h).up = false) → t.upSet = s.upSet ∧ t.cfg = s.cfg) : s.Evolves t := by
  refine ⟨fun h => by rw [grst]; exact ports h, fun sound => ?_, fun within => ?_⟩
  · obtain ⟨sources, lines, downs⟩ := State.sourcesSound_iff.1 sound
    refine State.sourcesSound_iff.2 ⟨fun n => fits n (sources n), fun off n => ?_, fun on => ?_⟩
    · rw [line n, lines (grst ▸ off) n]
      simp only [patn]
    · obtain ⟨down, empty⟩ := downs (grst ▸ on)
      obtain ⟨upSet, cfg⟩ := reset (grst ▸ on) down
      exact ⟨fun h => (congrFun upSet h).trans (down h), cfg ▸ empty⟩
  · obtain ⟨sources, notices⟩ := State.roundsWithin_iff.1 within
    exact State.roundsWithin_iff.2 ⟨fun n => rounds n (sources n), fun h m mem => notices h m (queues h m mem)⟩

/-- Each source follows its route, and the ports, the set and the lines stay. -/
theorem State.Evolves.of_follows (ports : t.ports = s.ports) (cfg : t.cfg = s.cfg) (grst : t.grst = s.grst)
    (patn : t.patn = s.patn) (follows : ∀ n, (t.source n).Follows (s.cfg.route n) s.upSet (s.source n)) :
    s.Evolves t := by
  have port (h : HostId) : t.port h = s.port h := congrArg (fun ports : Vector Port 4 => ports[h]) ports
  have upSet : t.upSet = s.upSet := funext fun h => congrArg Port.up (port h)
  refine .of_parts grst patn (fun h => port h ▸ .refl _) (fun h m mem => port h ▸ mem) (fun n => (follows n).line)
    (fun n fits => ?_) (fun n => (follows n).rounds) fun _ _ => ⟨upSet, cfg⟩
  rw [cfg, upSet]
  exact (follows n).fits fits

/-- An event that leaves the parts of the desk. -/
theorem State.Evolves.of_desk (same : t.desk = s.desk) : s.Evolves t := by
  refine .of_follows (congrArg Desk.ports same) (congrArg Desk.cfg same) (congrArg Desk.grst same)
    (congrArg Desk.patn same) fun n => ?_
  have source : t.source n = s.source n := congrArg (fun d : Desk => d.sources[n]) same
  rw [source]
  exact .refl _

/-- One source follows its route. -/
theorem State.Evolves.modSource {n : SourceId} {f : Source → Source}
    (follows : (f (s.source n)).Follows (s.cfg.route n) s.upSet (s.source n)) : s.Evolves (s.modSource n f) := by
  refine .of_follows rfl rfl rfl rfl fun m => ?_
  by_cases same : m = n
  · subst same
    rw [State.source_modSource_same]
    exact follows
  · rw [State.source_modSource_ne s f same]
    exact .refl _

theorem State.upSet_modPort {h : HostId} {f : Port → Port} (up : (f (s.port h)).up = (s.port h).up) :
    (s.modPort h f).upSet = s.upSet := by
  funext g
  by_cases same : g = h
  · subst same
    simp [State.upSet, up]
  · simp [State.upSet, State.port_modPort_ne s f same]

theorem State.SourcesSound.modPort (sound : s.SourcesSound) {h : HostId} {f : Port → Port}
    (up : (f (s.port h)).up = (s.port h).up) : (s.modPort h f).SourcesSound := by
  have upSet := State.upSet_modPort up
  obtain ⟨fits, lines, reset⟩ := State.sourcesSound_iff.1 sound
  refine State.sourcesSound_iff.2 ⟨fun n => ?_, lines, fun on => ?_⟩
  · rw [upSet]
    exact fits n
  · obtain ⟨down, empty⟩ := reset on
    exact ⟨fun g => (congrFun upSet g).trans (down g), empty⟩

/-- A queue gains no notice but one with a round of at most 6. -/
theorem State.RoundsWithin.modPort (within : s.RoundsWithin) {h : HostId} {f : Port → Port}
    (queue : ∀ m ∈ (f (s.port h)).queue, m ∈ (s.port h).queue ∨ m.body.round ≤ 6) : (s.modPort h f).RoundsWithin := by
  obtain ⟨sources, queues⟩ := State.roundsWithin_iff.1 within
  refine State.roundsWithin_iff.2 ⟨sources, fun g m mem => ?_⟩
  by_cases same : g = h
  · subst same
    rw [State.port_modPort_same] at mem
    exact (queue m mem).elim (queues g m) id
  · rw [State.port_modPort_ne s f same] at mem
    exact queues g m mem

theorem State.modPort_portEvolves {h : HostId} {f : Port → Port}
    (port : (f (s.port h)).Evolves s.grst s.grst (s.port h)) (g : HostId) :
    ((s.modPort h f).port g).Evolves s.grst s.grst (s.port g) := by
  by_cases same : g = h
  · subst same
    rw [State.port_modPort_same]
    exact port
  · rw [State.port_modPort_ne s f same]
    exact .refl _

/-- One port changes and stays UP or DOWN, and its queue gains no notice. -/
theorem State.Evolves.modPort {h : HostId} {f : Port → Port} (up : (f (s.port h)).up = (s.port h).up)
    (port : (f (s.port h)).Evolves s.grst s.grst (s.port h))
    (queue : ∀ m ∈ (f (s.port h)).queue, m ∈ (s.port h).queue) : s.Evolves (s.modPort h f) :=
  ⟨State.modPort_portEvolves port, fun sound => sound.modPort up,
    fun within => within.modPort fun m mem => .inl (queue m mem)⟩

/-- One port changes in what no other unit sees. -/
theorem State.Evolves.modPort_stays {h : HostId} {f : Port → Port} (stays : (f (s.port h)).Stays (s.port h)) :
    s.Evolves (s.modPort h f) :=
  .modPort stays.up stays.evolves fun _ mem => stays.queue ▸ mem

end Evolves

/-! ## Requests -/

section Requests

variable (s : State) (h : HostId)

/-- The taking of a request adds its answer to what its owner does (R162, R167). -/
theorem State.take_evolves {f : State → State × Answer} (owner : (s.port h).up = true → s.Evolves (f s).1) :
    s.Evolves (s.take h f) := by
  unfold State.take
  split
  · next up => exact (owner up).trans (.modPort_stays ⟨rfl, rfl, rfl, rfl, rfl⟩)
  · exact .modPort_stays ⟨rfl, rfl, rfl, rfl, rfl⟩

theorem State.slotWrite_desk (slot : SlotId) (offset : Word) (width : Width) (data : Word) :
    (s.slotWrite h slot offset width data).1.desk = s.desk := by
  rcases s.slotWrite_cases h slot offset width data with ⟨_, e⟩ | ⟨_, -, e⟩ | ⟨-, -, e⟩ <;>
    exact congrArg (fun decided => decided.1.desk) e

theorem State.slotRead_desk (slot : SlotId) (offset : Word) (width : Width) :
    (s.slotRead h slot offset width).1.desk = s.desk := by
  rcases s.slotRead_cases h slot offset width with ⟨_, _, _, -, -, e⟩ | ⟨_, -, -, e⟩ | ⟨-, e⟩
  · rw [e]
    rfl
  · rw [e]
  · rw [e]
    rcases s.slotReadUnmatched_cases h slot offset width with ⟨_, e⟩ | ⟨_, e⟩ | ⟨_, -, e⟩ | ⟨-, -, e⟩ <;>
      exact congrArg (fun decided => decided.1.desk) e

/-- A claim is granted to a subscriber whose port has taken it, which is UP (R94). -/
theorem State.claim_evolves (n : SourceId) (up : (s.port h).up = true) : s.Evolves (s.claim h n).1 := by
  unfold State.claim
  dsimp only
  split
  · next granted => exact .modSource (Source.grant_follows _ up (Source.claimResult_granted.1 granted).1)
  · exact .refl s

theorem State.release_evolves (value : Word) : s.Evolves (s.release h value).1 := by
  unfold State.release
  split
  · exact .refl s
  · next n _ =>
    split
    · dsimp only
      exact .modSource (s.source n).release_follows
    · exact .refl s

theorem State.rearm_evolves (value : Word) : s.Evolves (s.rearm h value).1 := by
  unfold State.rearm
  split
  · exact .refl s
  · next n _ =>
    split
    · exact .refl s
    · dsimp only
      exact .modSource (s.source n).rearm_follows

theorem State.pop_evolves : s.Evolves (s.pop h).1 := by
  unfold State.pop
  split
  · exact .refl s
  · next head rest queue =>
    dsimp only
    refine .modPort rfl (.evalLine rfl rfl fun sound => ?_) fun m mem => ?_
    · rw [Port.QueueSound, queue] at sound
      exact ⟨(Nat.le_succ _).trans sound.1, (List.pairwise_cons.1 sound.2).2⟩
    · rw [queue]
      exact List.mem_cons_of_mem _ mem

theorem State.writeThreshold_evolves (value : Word) : s.Evolves (s.writeThreshold h value).1 := by
  unfold State.writeThreshold
  split
  · exact .refl s
  · dsimp only
    exact .modPort rfl (.evalLine rfl rfl id) fun _ => id

theorem State.readReg_evolves (up : (s.port h).up = true) (reg : ControlReg) : s.Evolves (s.readReg h reg).1 := by
  cases reg with
  | statusFirst =>
    dsimp only [State.readReg, State.readStatus]
    exact .modPort_stays ⟨rfl, rfl, rfl, rfl, rfl⟩
  | claim n => exact s.claim_evolves h n up
  | _ => exact .refl s

/-! ## Configuration writes -/

/-- An accepted write stores the item and counts the generation (R135, R136). -/
theorem State.acceptWrite_cfg (item : Item) (v : Word) :
    (s.acceptWrite h item v).cfg = { s.cfg.store v item with generation := s.cfg.generation + 1#16 } := by
  unfold State.acceptWrite
  exact congrArg Governor.cfg (State.inform_governor _ s.cfg item)

/-- The blocks informed of a write change no port, no level and no source but the one of a route word A (R141 to
R143). -/
theorem State.inform_desk (old : ConfigSet) (item : Item) :
    (s.inform old item).ports = s.ports ∧ (s.inform old item).grst = s.grst ∧ (s.inform old item).patn = s.patn ∧
      ((∀ n, item ≠ .routeA n) → (s.inform old item).sources = s.sources) := by
  cases item with
  | mode slot =>
    unfold State.inform
    dsimp only
    split <;> exact ⟨rfl, rfl, rfl, fun _ => rfl⟩
  | routeA n => exact ⟨rfl, rfl, rfl, fun other => absurd rfl (other n)⟩
  | _ => exact ⟨rfl, rfl, rfl, fun _ => rfl⟩

/-- An accepted write changes of each port its CONFIG_CHANGED flag alone (R139). -/
theorem State.acceptWrite_port (item : Item) (v : Word) (g : HostId) :
    ((s.acceptWrite h item v).port g).Stays (s.port g) := by
  have ports : (s.acceptWrite h item v).port g = (s.oweChanged h).port g :=
    congrArg (fun ports : Vector Port 4 => ports[g]) (State.inform_desk _ s.cfg item).1
  rw [ports, State.oweChanged, State.port_mapPorts]
  split
  · exact ⟨rfl, rfl, rfl, rfl, rfl⟩
  · exact .refl _

/-- The route of a source after a write of one item (R87, R135). -/
theorem ConfigSet.route_store (c : ConfigSet) (v : Word) (item : Item) (g : Word) (n : SourceId) :
    ({ c.store v item with generation := g } : ConfigSet).route n =
      routeOf (if Item.routeA n = item then v else c.routeA[n]) (if Item.routeB n = item then v else c.routeB[n]) := by
  have a := c.read_store v item (.routeA n)
  have b := c.read_store v item (.routeB n)
  exact congrArg₂ routeOf a b

/-- An accepted write reaches no source but the one of a route word A (R143). -/
theorem State.acceptWrite_source_other {item : Item} (v : Word) {n : SourceId} (other : item ≠ .routeA n) :
    (s.acceptWrite h item v).source n = s.source n := by
  by_cases route : ∃ m, item = .routeA m
  · obtain ⟨m, rfl⟩ := route
    exact State.source_modSource_ne _ _ fun same : n = m => other (same ▸ rfl)
  · exact congrArg (fun sources : Vector Source 8 => sources[n])
      ((State.inform_desk _ s.cfg item).2.2.2 fun m eq => route ⟨m, eq⟩)

/-- An accepted write is a route change of each source, from its route to the one then in the set: no change but for the
source of a route word A (R143). -/
theorem State.acceptWrite_source (item : Item) (v : Word) (n : SourceId) :
    (s.acceptWrite h item v).source n =
      (s.source n).routeChange (s.cfg.route n) ((s.acceptWrite h item v).cfg.route n) s.upSet := by
  by_cases here : item = .routeA n
  · subst here
    have upSet : (s.acceptWrite h (.routeA n) v).upSet = s.upSet :=
      funext fun g => (s.acceptWrite_port h (.routeA n) v g).up
    rw [← upSet]
    exact State.source_modSource_same _ n _
  · have same : (s.cfg.route n).subscribers = ((s.acceptWrite h item v).cfg.route n).subscribers := by
      rw [State.acceptWrite_cfg, ConfigSet.route_store, if_neg (Ne.symm here)]
      rfl
    rw [Source.routeChange, if_pos same, State.acceptWrite_source_other s h v here]

/-- A write that is accepted comes from an UP port (R135, R162). -/
theorem State.acceptWrite_evolves (item : Item) (v : Word) (up : (s.port h).up = true) :
    s.Evolves (s.acceptWrite h item v) := by
  obtain ⟨-, grst, patn, -⟩ := State.inform_desk
    { s.oweChanged h with cfg := { s.cfg.store v item with generation := s.cfg.generation + 1#16 } } s.cfg item
  have grst : (s.acceptWrite h item v).grst = s.grst := grst
  have patn : (s.acceptWrite h item v).patn = s.patn := patn
  have stays := s.acceptWrite_port h item v
  have upSet : (s.acceptWrite h item v).upSet = s.upSet := funext fun g => (stays g).up
  refine .of_parts grst patn (fun g => (stays g).evolves) (fun g m mem => (stays g).queue ▸ mem) (fun n => ?_)
    (fun n fits => ?_) (fun n within => ?_) fun _ down => absurd (up.symm.trans (down h)) nofun
  · rw [s.acceptWrite_source, Source.routeChange_line]
  · rw [s.acceptWrite_source, upSet]
    exact fits.routeChange
  · rw [s.acceptWrite_source]
    exact within.routeChange

theorem State.cfgDataWrite_evolves (v : Word) (up : (s.port h).up = true) : s.Evolves (s.cfgDataWrite h v).1 := by
  unfold State.cfgDataWrite
  split
  · exact .refl s
  · split
    · exact s.acceptWrite_evolves h _ v up
    · exact .refl s

theorem State.cfgCdataWrite_evolves (v : Word) (up : (s.port h).up = true) : s.Evolves (s.cfgCdataWrite h v).1 := by
  unfold State.cfgCdataWrite
  split
  · exact .refl s
  · split
    · exact .refl s
    · split
      · exact .refl s
      · exact s.acceptWrite_evolves h _ v up

theorem State.writeReg_evolves (value : Word) (up : (s.port h).up = true) (reg : ControlReg) :
    s.Evolves (s.writeReg h value reg).1 := by
  cases reg with
  | noticePop => exact s.pop_evolves h
  | threshold => exact s.writeThreshold_evolves h value
  | cancelReads => exact .of_desk rfl
  | release => exact s.release_evolves h value
  | rearm => exact s.rearm_evolves h value
  | cfgIndex =>
    dsimp only [State.writeReg]
    exact .modPort_stays ⟨rfl, rfl, rfl, rfl, rfl⟩
  | cfgExpect =>
    dsimp only [State.writeReg]
    exact .modPort_stays ⟨rfl, rfl, rfl, rfl, rfl⟩
  | cfgData => exact s.cfgDataWrite_evolves h value up
  | cfgCdata => exact s.cfgCdataWrite_evolves h value up
  | _ => exact .refl s

/-- A decoded request of an UP port (R167). -/
theorem State.access_evolves (up : (s.port h).up = true) (a : Access) : s.Evolves (s.access h a).1 := by
  cases a with
  | slotRead slot offset width => exact .of_desk (s.slotRead_desk h slot offset width)
  | slotWrite slot offset width data => exact .of_desk (s.slotWrite_desk h slot offset width data)
  | readReg reg => exact s.readReg_evolves h up reg
  | writeReg reg value => exact s.writeReg_evolves h value up reg
  | badAddress => exact .refl s

end Requests

end Sys2Proof.Machine
end

section
/-!
PROOFS. Placement passes, changes of the attention lines and the timers: each keeps what `State.Evolves` says of the
sources and the ports.
-/

namespace Sys2Proof.Machine

open Sys2Proof.Statements

/-! ## Placements -/

section Placements

variable {s : State} {h : HostId}

/-- The owed entry that a pass delivers is owed (R117). -/
theorem State.owed_of_nextDelivery {n : SourceId} {entry : OwedEntry} (next : s.nextDelivery h = some (.owed n entry)) :
    entry ∈ (s.source n).owed[h] := by
  have found : s.owedDelivery h = some (.owed n entry) := by
    have noForced : s.forcedDelivery h ≠ some (.owed n entry) := fun forced => by
      obtain ⟨m, -, delivered⟩ := List.exists_of_findSome?_eq_some forced
      simp at delivered
    simp [State.nextDelivery, Option.or_eq_some_iff, noForced] at next
    exact next.2.2.2
  obtain ⟨priority, -, found⟩ := List.exists_of_findSome?_eq_some found
  obtain ⟨m, -, found⟩ := List.exists_of_findSome?_eq_some found
  obtain ⟨owed, here, eq⟩ := Option.map_eq_some_iff.1 found
  cases eq
  exact (Option.filter_eq_some_iff.1 here).1

/-- The notice of a delivery has a round of at most 6 (R111, R118). -/
theorem State.nextDelivery_round (within : s.RoundsWithin) {d : Delivery} (next : s.nextDelivery h = some d)
    (generation : Word) : (d.body generation).round ≤ 6 := by
  cases d with
  | owed n entry =>
    have low := (within.1 n).2 h entry (State.owed_of_nextDelivery next)
    cases kind : entry.kind <;> simp_all [Delivery.body, AttentionKind.body, AttentionKind.round, NoticeBody.round]
  | _ => exact Nat.zero_le 6

theorem State.endWaiting_evolves (s : State) (h : HostId) (d : Delivery) : s.Evolves (s.endWaiting h d) := by
  cases d with
  | failed r => exact .of_desk rfl
  | orphaned r => exact .of_desk rfl
  | forced n cause =>
    dsimp only [State.endWaiting]
    exact .modSource ((s.source n).forcedDelivered_follows h)
  | owed n entry =>
    dsimp only [State.endWaiting]
    exact .modSource ((s.source n).delivered_follows h)
  | changed writer =>
    dsimp only [State.endWaiting]
    exact .modPort_stays ⟨rfl, rfl, rfl, rfl, rfl⟩

/-- A delivery is placed in a queue with room (R113, R116, R117). -/
theorem State.placeDelivery_evolves {d : Delivery} (next : s.nextDelivery h = some d)
    (room : (s.port h).queue.length < 8) : s.Evolves (s.placeDelivery h d) := by
  have ended := s.endWaiting_evolves h d
  obtain ⟨-, queue⟩ := s.endWaiting_port h d
  have port : (((s.endWaiting h d).port h).placeNotice d.priority (d.body s.cfg.generation)).Evolves
      (s.endWaiting h d).grst (s.endWaiting h d).grst ((s.endWaiting h d).port h) :=
    Port.placeNotice_evolves (queue.symm ▸ room) _ _
  refine ⟨fun g => (State.modPort_portEvolves port g).trans (ended.ports g), fun sound =>
    (ended.sources sound).modPort rfl, fun within => (ended.rounds within).modPort fun m mem => ?_⟩
  rcases mem_insertNotice.1 mem with rfl | old
  · exact .inr (State.nextDelivery_round within next _)
  · exact .inl old

/-- A pass places as many notices as the queue has room for (R116). -/
theorem State.placeUpTo_evolves (s : State) (h : HostId) (room : Nat) (fits : room ≤ 8 - (s.port h).queue.length) :
    s.Evolves (s.placeUpTo h room) := by
  induction room generalizing s with
  | zero => exact .refl s
  | succ room ih =>
    unfold State.placeUpTo
    split
    · exact .refl s
    · next d next =>
      have length := (s.placeDelivery_port h d).2
      exact (State.placeDelivery_evolves next (by omega)).trans (ih _ (by omega))

theorem State.placementPass_evolves (s : State) (h : HostId) : s.Evolves (s.placementPass h) := by
  unfold State.placementPass
  split
  · exact s.placeUpTo_evolves h _ le_rfl
  · exact .refl s

end Placements

/-! ## Attention lines and timers -/

section Timers

variable (s : State)

/-- A repeat limit has three bits (R181). -/
theorem ConfigSet.route_repeatLimit_le (c : ConfigSet) (n : SourceId) : (c.route n).repeatLimit ≤ 7 :=
  Nat.le_of_lt_succ (BitVec.isLt _)

theorem State.claimTimeout_evolves (n : SourceId) : s.Evolves (s.claimTimeout n) :=
  .modSource ((s.source n).claimTimeout_follows (s.cfg.route_repeatLimit_le n))

theorem State.holdTimeout_evolves (n : SourceId) : s.Evolves (s.holdTimeout n) :=
  .modSource (s.source n).holdTimeout_follows

theorem State.expireDue_evolves : s.Evolves s.expireDue :=
  .of_follows rfl rfl rfl rfl fun n => by
    rw [State.source_expireDue]
    exact Source.expireDue_follows _ (s.cfg.route_repeatLimit_le n)

theorem State.tick_evolves : s.Evolves s.tick :=
  .of_follows rfl rfl rfl rfl fun n => by
    rw [State.source_tick]
    exact Source.tick_follows _

theorem State.tickEvent_evolves : s.Evolves s.tickEvent := by
  unfold State.tickEvent
  split
  · exact .refl s
  · exact s.expireDue_evolves.trans (State.tick_evolves _)

theorem State.divide_evolves : s.Evolves s.divide := by
  unfold State.divide
  split
  · exact s.tick_evolves
  · exact .of_desk rfl

/-- The level of a line changes at its pin and at its source (R93). -/
theorem State.Evolves.leveled {n : SourceId} {level : Bool} {f : Source → Source} (off : s.grst = false)
    (line : (f (s.source n)).line = level)
    (fits : (s.source n).Fits (s.cfg.route n) s.upSet → (f (s.source n)).Fits (s.cfg.route n) s.upSet)
    (rounds : (s.source n).RoundsWithin → (f (s.source n)).RoundsWithin) :
    s.Evolves (State.modSource { s with patn := s.patn.set n level } n f) := by
  have here : (State.modSource { s with patn := s.patn.set n level } n f).source n = f (s.source n) :=
    State.source_modSource_same _ n f
  have other {m : SourceId} (ne : m ≠ n) :
      (State.modSource { s with patn := s.patn.set n level } n f).source m = s.source m :=
    State.source_modSource_ne _ f ne
  refine ⟨fun _ => .refl _, fun sound => ?_, fun within => ?_⟩
  · obtain ⟨sources, lines, -⟩ := State.sourcesSound_iff.1 sound
    refine State.sourcesSound_iff.2 ⟨fun m => ?_, fun _ m => ?_, fun on => absurd (on.symm.trans off) nofun⟩
    · by_cases same : m = n
      · subst same
        rw [here]
        exact fits (sources m)
      · rw [other same]
        exact sources m
    · show _ = (s.patn.set n level)[m]
      rw [getElem_set_fin]
      by_cases same : m = n
      · subst same
        rw [here, if_pos rfl, line]
      · rw [other same, if_neg same, lines off m]
  · obtain ⟨sources, queues⟩ := State.roundsWithin_iff.1 within
    refine State.roundsWithin_iff.2 ⟨fun m => ?_, queues⟩
    by_cases same : m = n
    · subst same
      rw [here]
      exact rounds (sources m)
    · rw [other same]
      exact sources m

/-- While GRST is asserted only the pin follows the level (R109). -/
theorem State.Evolves.pinned {patn : Vector Bool 8} (on : s.grst = true) : s.Evolves { s with patn := patn } := by
  refine ⟨fun _ => .refl _, fun sound => ?_, id⟩
  obtain ⟨sources, -, reset⟩ := State.sourcesSound_iff.1 sound
  exact State.sourcesSound_iff.2 ⟨sources, fun off => absurd (on.symm.trans off) nofun, reset⟩

theorem State.attentionLine_evolves (n : SourceId) (level : Bool) : s.Evolves (s.attentionLine n level) := by
  unfold State.attentionLine
  split
  · exact .refl s
  · dsimp only
    split
    · next on => exact .pinned s on
    · next off =>
      have off : s.grst = false := Bool.eq_false_iff.2 off
      split
      · next active =>
        exact .leveled s off ((Source.lineActive_line _ _ _).trans active.symm) .lineActive .lineActive
      · next inactive =>
        exact .leveled s off ((Source.lineInactive_line _).trans (Bool.eq_false_iff.2 inactive).symm) .lineInactive
          .lineInactive

end Timers

end Sys2Proof.Machine
end

section
/-!
PROOFS. The two kinds of reset, and the operations of pool and bus that leave the sources and the ports: so every
command and every step keeps what `State.Evolves` says.
-/

namespace Sys2Proof.Machine

open Sys2Proof.Statements

/-! ## Resets -/

section Resets

variable {s : State} {h : HostId}

/-- While GRST is asserted a reset line only changes its level, and the port is DOWN (R161). -/
theorem State.Evolves.prst (on : s.grst = true) (level : Bool) :
    s.Evolves (s.modPort h fun p => { p with prst := level }) := by
  refine .modPort rfl ⟨fun levels => ?_, id, id⟩ fun _ => id
  simpa [on] using levels

/-- A port at the assertion of its reset line: the level, and the port's part of the reset (R161, R163). -/
def Port.resetEdge (p : Port) : Port := { p with prst := true }.reseted

/-- A port at the deassertion of its reset line: the level, and the port's part of the return (R161, R165). -/
def Port.returnEdge (p : Port) : Port := { p with prst := false, up := true }.evalLine

/-- A port reset leaves the port DOWN with an empty queue, and its host without claims and entries (R107, R163). -/
theorem State.portReset_evolves (off : s.grst = false) :
    s.Evolves ((s.modPort h fun p => { p with prst := true }).portReset h) := by
  have port (g : HostId) : ((s.modPort h fun p => { p with prst := true }).portReset h).port g =
      (s.modPort h Port.resetEdge).port g := by
    rw [State.portReset_port, State.modPort_modPort]
    rfl
  have upSet : ((s.modPort h fun p => { p with prst := true }).portReset h).upSet = (s.modPort h Port.resetEdge).upSet :=
    funext fun g => congrArg Port.up (port g)
  have source (n : SourceId) : ((s.modPort h fun p => { p with prst := true }).portReset h).source n =
      (s.source n).portReset (s.cfg.route n) (s.modPort h Port.resetEdge).upSet h := by
    rw [State.portReset_source, State.modPort_modPort]
    rfl
  refine .of_parts rfl rfl (fun g => ?_) (fun g m mem => ?_) (fun n => ?_) (fun n fits => ?_) (fun n within => ?_)
    fun on => absurd (on.symm.trans off) nofun
  · rw [port]
    exact State.modPort_portEvolves (f := Port.resetEdge) ⟨fun _ => rfl, fun _ => ⟨Nat.zero_le _, .nil⟩, fun _ => rfl⟩ g
  · rw [port] at mem
    by_cases same : g = h
    · subst same
      rw [State.port_modPort_same] at mem
      cases mem
    · rwa [State.port_modPort_ne s _ same] at mem
  · rw [source, Source.portReset_line]
  · rw [source, upSet]
    refine fits.portReset fun g other => ?_
    exact congrArg Port.up (State.port_modPort_ne s _ other)
  · rw [source]
    exact within.portReset

theorem State.assertPrst_evolves (s : State) (h : HostId) : s.Evolves (s.assertPrst h) := by
  cases on : s.grst with
  | true =>
    rw [State.assertPrst_grst on]
    exact .prst on true
  | false =>
    cases prst : (s.port h).prst with
    | true =>
      rw [State.assertPrst_asserted prst]
      exact .refl s
    | false =>
      rw [State.assertPrst_edge on prst]
      exact State.portReset_evolves on

/-- A return to UP, with the host told of each RAISED or STUCK source (R108, R165). -/
theorem State.returnToUp_evolves (off : s.grst = false) :
    s.Evolves ((s.modPort h fun p => { p with prst := false }).returnToUp h) := by
  have port (g : HostId) : ((s.modPort h fun p => { p with prst := false }).returnToUp h).port g =
      (s.modPort h Port.returnEdge).port g := by
    rw [State.returnToUp_port, State.modPort_modPort]
    rfl
  have source (n : SourceId) : ((s.modPort h fun p => { p with prst := false }).returnToUp h).source n =
      (s.source n).portReturn (s.cfg.route n) h := State.returnToUp_source _ h n
  refine .of_parts rfl rfl (fun g => ?_) (fun g m mem => ?_) (fun n => ?_) (fun n fits => ?_) (fun n within => ?_)
    fun on => absurd (on.symm.trans off) nofun
  · rw [port]
    refine State.modPort_portEvolves (f := Port.returnEdge) ⟨fun _ => ?_, id, fun _ => rfl⟩ g
    rw [off]
    rfl
  · rw [port] at mem
    by_cases same : g = h
    · subst same
      rwa [State.port_modPort_same] at mem
    · rwa [State.port_modPort_ne s _ same] at mem
  · rw [source, Source.portReturn_line]
  · rw [source]
    refine fits.portReturn ?_ fun g other => ?_
    · exact congrArg Port.up ((port h).trans (s.port_modPort_same h _))
    · exact congrArg Port.up ((port g).trans (State.port_modPort_ne s _ other))
  · rw [source]
    exact within.portReturn

theorem State.deassertPrst_evolves (s : State) (h : HostId) : s.Evolves (s.deassertPrst h) := by
  cases on : s.grst with
  | true =>
    rw [State.deassertPrst_grst on]
    exact .prst on false
  | false =>
    cases prst : (s.port h).prst with
    | false =>
      rw [State.deassertPrst_deasserted prst]
      exact .refl s
    | true =>
      rw [State.deassertPrst_edge on prst]
      exact State.returnToUp_evolves on

/-- Gateway reset gives every source and port its reset state (R109, R127, R147, R173). -/
theorem State.gatewayReset_evolves (s : State) : s.Evolves s.gatewayReset := by
  have source (n : SourceId) : s.gatewayReset.source n = Source.reset := by
    simp [State.gatewayReset, State.source]
  have port (h : HostId) : s.gatewayReset.port h = (s.port h).gatewayReset := by
    simp [State.gatewayReset, State.port]
  have nothing (h : HostId) : Source.reset.OwesNothing h := by
    constructor <;> simp [Source.reset]
  refine ⟨fun h => ?_, fun _ => ?_, fun _ => ?_⟩
  · rw [port h]
    exact ⟨fun _ => (Bool.and_false _).symm, fun _ => ⟨Nat.zero_le _, .nil⟩, fun _ => rfl⟩
  · refine State.sourcesSound_iff.2 ⟨fun n => ?_, nofun, fun _ => ⟨fun h => by rw [port h]; rfl, ?_⟩⟩
    · rw [source n]
      exact ⟨(Source.sound_idle rfl).2 nofun, fun h _ => nothing h⟩
    · show ∀ n, (ConfigSet.reset.route n).hasSubscriber = false
      decide
  · refine State.roundsWithin_iff.2 ⟨fun n => ?_, fun h m mem => ?_⟩
    · rw [source n]
      refine ⟨nofun, fun h entry mem => ?_⟩
      rw [(nothing h).owed] at mem
      cases mem
    · rw [port h] at mem
      cases mem

/-- One port's part of the end of gateway reset: it returns to UP where its reset line is inactive (R161, R165). -/
def State.endReset (s : State) (h : HostId) : State := if (s.port h).prst then s else s.returnToUp h

theorem State.gatewayResetEnd_eq (on : s.grst = true) :
    s.gatewayResetEnd =
      allHosts.foldl State.endReset
        ({ s with grst := false, bus := { s.bus with pbrst := false } }.mapSources fun n src =>
          { src with line := s.patn[n] }) := if_pos on

theorem State.endReset_port (s : State) (h g : HostId) :
    (s.endReset h).port g = (s.modPort h Port.returned).port g := by
  unfold State.endReset
  split
  · next prst => rw [State.modPort_eq_self (f := Port.returned) (if_pos prst)]
  · next prst => rw [State.returnToUp_port, State.modPort_congr (g := Port.returned) (if_neg prst).symm]

theorem State.endReset_grst (s : State) (h : HostId) : (s.endReset h).grst = s.grst := by
  unfold State.endReset
  split <;> rfl

theorem State.endReset_rounds (within : ∀ n, (s.source n).RoundsWithin) (h : HostId) (n : SourceId) :
    ((s.endReset h).source n).RoundsWithin := by
  unfold State.endReset
  split
  · exact within n
  · rw [State.returnToUp_source]
    exact (within n).portReturn

/-- Every port of a list returns, whatever the sources are owed (R161, R165). -/
theorem State.foldl_endReset_port {hosts : List HostId} (nodup : hosts.Nodup) (s : State) (g : HostId) :
    (hosts.foldl State.endReset s).port g = if g ∈ hosts then (s.port g).returned else s.port g := by
  induction hosts generalizing s with
  | nil => rfl
  | cons h hosts ih =>
    obtain ⟨fresh, nodup⟩ := List.nodup_cons.1 nodup
    rw [List.foldl_cons, ih nodup, State.endReset_port]
    by_cases same : g = h
    · subst same
      simp [fresh]
    · simp [State.port_modPort_ne s _ same, same]

theorem State.foldl_endReset_grst (hosts : List HostId) (s : State) :
    (hosts.foldl State.endReset s).grst = s.grst := by
  induction hosts generalizing s with
  | nil => rfl
  | cons h hosts ih => exact (ih _).trans (s.endReset_grst h)

theorem State.foldl_endReset_rounds (hosts : List HostId) {s : State} (within : ∀ n, (s.source n).RoundsWithin)
    (n : SourceId) : ((hosts.foldl State.endReset s).source n).RoundsWithin := by
  induction hosts generalizing s with
  | nil => exact within n
  | cons h hosts ih => exact ih (State.endReset_rounds within h)

/-- At the end of gateway reset each port returns where its reset line is inactive (R161). -/
theorem State.gatewayResetEnd_port (on : s.grst = true) (g : HostId) :
    s.gatewayResetEnd.port g = (s.port g).returned := by
  rw [State.gatewayResetEnd_eq on, State.foldl_endReset_port (by decide), if_pos (mem_allHosts g)]
  rfl

theorem State.gatewayResetEnd_grst (on : s.grst = true) : s.gatewayResetEnd.grst = false := by
  rw [State.gatewayResetEnd_eq on, State.foldl_endReset_grst]
  rfl

/-- The rounds of the sources stay within at the end of gateway reset (R89). -/
theorem State.gatewayResetEnd_rounds (on : s.grst = true) (within : ∀ n, (s.source n).RoundsWithin) (n : SourceId) :
    (s.gatewayResetEnd.source n).RoundsWithin := by
  rw [State.gatewayResetEnd_eq on]
  refine State.foldl_endReset_rounds allHosts (fun n => ?_) n
  rw [State.source_mapSources]
  exact ⟨(within n).raised, (within n).owed⟩

theorem Port.returned_evolves (p : Port) : p.returned.Evolves true false p := by
  cases prst : p.prst with
  | true =>
    rw [Port.returned, if_pos prst]
    exact ⟨fun levels => by rw [levels, prst]; rfl, id, id⟩
  | false =>
    rw [Port.returned, if_neg (Bool.eq_false_iff.1 prst)]
    exact ⟨fun _ => by show true = _; rw [show Port.prst _ = false from prst]; rfl, id, fun _ => rfl⟩

theorem Port.returned_queue (p : Port) : p.returned.queue = p.queue := by
  unfold Port.returned
  split <;> rfl

/-- A source that agrees with a route without subscribers is IDLE (R90). -/
theorem Source.Fits.idle_of_empty {src : Source} {route : Route} {up : HostId → Bool} (fits : src.Fits route up)
    (empty : route.hasSubscriber = false) : src.state = .idle := by
  cases st : src.state with
  | idle => rfl
  | raised => cases empty.symm.trans ((Source.sound_raised st).1 fits.sound).2.1
  | stuck => cases empty.symm.trans ((Source.sound_stuck st).1 fits.sound)
  | claimed =>
    cases empty.symm.trans (Route.hasSubscriber_of_subscribes ((Source.sound_claimed st).1 fits.sound).2)

/-- At the end of gateway reset every source is IDLE, as none has a subscriber, and takes the level of its line
(R109). -/
theorem State.gatewayResetEnd_sourcesSound (on : s.grst = true) (sound : s.SourcesSound) :
    s.gatewayResetEnd.SourcesSound := by
  obtain ⟨fits, -, reset⟩ := State.sourcesSound_iff.1 sound
  obtain ⟨down, empty⟩ := reset on
  have idle (n : SourceId) : (s.source n).state = .idle := (fits n).idle_of_empty (empty n)
  have source (n : SourceId) : s.gatewayResetEnd.source n = { s.source n with line := s.patn[n] } := by
    rw [State.gatewayResetEnd_idle on idle, State.source_mapPorts, State.source_mapSources]
    rfl
  have cfg : s.gatewayResetEnd.cfg = s.cfg := congrArg Governor.cfg s.gatewayResetEnd_governor
  have patn : s.gatewayResetEnd.patn = s.patn := by
    rw [State.gatewayResetEnd_idle on idle]
    rfl
  refine State.sourcesSound_iff.2 ⟨fun n => ?_, fun _ n => ?_, fun still => absurd (still.symm.trans (State.gatewayResetEnd_grst on)) nofun⟩
  · rw [source n, cfg]
    refine ⟨(Source.sound_idle ?_).2 fun _ => empty n, fun h _ => ?_⟩
    · exact idle n
    obtain ⟨owed, forced⟩ := (fits n).owes h (down h)
    exact ⟨owed, forced⟩
  · rw [source n]
    simp only [patn]

theorem State.gatewayResetEnd_evolves (s : State) : s.Evolves s.gatewayResetEnd := by
  cases on : s.grst with
  | false =>
    have same : s.gatewayResetEnd = s := if_neg (by rw [on]; nofun)
    rw [same]
    exact .refl s
  | true =>
    refine ⟨fun h => ?_, State.gatewayResetEnd_sourcesSound on, fun within => ?_⟩
    · rw [State.gatewayResetEnd_port on, State.gatewayResetEnd_grst on, on]
      exact (s.port h).returned_evolves
    · obtain ⟨sources, queues⟩ := State.roundsWithin_iff.1 within
      refine State.roundsWithin_iff.2 ⟨State.gatewayResetEnd_rounds on sources, fun h => ?_⟩
      rw [State.gatewayResetEnd_port on, Port.returned_queue]
      exact queues h

end Resets

/-! ## The bus and the pool leave the sources and the ports -/

section Frame

variable (s : State)

theorem State.lifetimeExpiry_desk (e : EntryId) : (s.lifetimeExpiry e).desk = s.desk := by
  unfold State.lifetimeExpiry
  split <;> rfl

theorem State.setupEnd_desk (pdcl : Bool) : (s.setupEnd pdcl).desk = s.desk := by
  unfold State.setupEnd
  split
  · split
    · split <;> rfl
    · rfl
  · rfl

theorem State.takeTransfer_desk (op : Operation) (lanes : Word) (ppar : Bool) :
    (s.takeTransfer op lanes ppar).desk = s.desk := by
  rcases s.takeTransfer_cases op lanes ppar with ⟨-, e⟩ | ⟨-, -, e⟩ | ⟨-, -, e⟩ <;> rw [e] <;> rfl

theorem State.strobePeriodEnd_desk (prdy : Bool) (lanes : Word) (ppar : Bool) :
    (s.strobePeriodEnd prdy lanes ppar).desk = s.desk := by
  unfold State.strobePeriodEnd
  split
  · split
    · split
      · exact s.takeTransfer_desk _ lanes ppar
      · rfl
    · rfl
  · rfl

theorem State.ready_desk (lanes : Word) (ppar : Bool) : (s.ready lanes ppar).desk = s.desk := by
  unfold State.ready
  split
  · split
    · exact s.takeTransfer_desk _ lanes ppar
    · rfl
  · rfl

theorem State.decline_desk : s.decline.desk = s.desk := by
  unfold State.decline
  split
  · split <;> rfl
  · rfl

theorem State.readyLimitExpiry_desk : s.readyLimitExpiry.desk = s.desk := by
  unfold State.readyLimitExpiry
  split
  · split <;> rfl
  · rfl

theorem State.recoveryEnd_desk : s.recoveryEnd.desk = s.desk := by
  unfold State.recoveryEnd
  split
  · split <;> rfl
  · rfl

theorem State.completion_desk : s.completion.desk = s.desk := by
  have completeFill (u : State) (op : Operation) : (u.completeFill op).desk = u.desk := by
    unfold State.completeFill
    split
    · rfl
    · rw [State.fillEnd_eq]
      rfl
  unfold State.completion
  split
  · split
    · exact completeFill _ _
    · rfl
  · rfl

theorem State.selection_desk : s.selection.desk = s.desk := by
  have issue (u : State) (job : Job) : (u.issue job).desk = u.desk := by
    unfold State.issue
    dsimp only
    split <;> rfl
  have takeRecord (u : State) (h : HostId) (r : Record) : (u.takeRecord h r).desk = u.desk := by
    unfold State.takeRecord
    split
    · rfl
    · exact issue _ _
  rcases s.selection_cases with e | ⟨h, q, r, -, -, -, e⟩ <;> rw [e]
  exact takeRecord _ h r

end Frame

/-! ## Every command and every step -/

/-- Every command evolves the sources and the ports. -/
theorem exec_evolves {c : Instr} {s t : State} (run : exec c s = .next t) : s.Evolves t := by
  cases c with
  | slotRead h slot offset width =>
    cases run; exact s.take_evolves h fun _ => .of_desk (s.slotRead_desk h slot offset width)
  | slotWrite h slot offset width data =>
    cases run; exact s.take_evolves h fun _ => .of_desk (s.slotWrite_desk h slot offset width data)
  | unmappedRequest h word data => cases run; exact s.take_evolves h fun up => s.access_evolves h up _
  | portStatus h width offset => cases run; exact s.take_evolves h fun up => s.access_evolves h up _
  | noticePop h value => cases run; exact s.take_evolves h fun _ => s.pop_evolves h
  | threshold h value => cases run; exact s.take_evolves h fun _ => s.writeThreshold_evolves h value
  | cancelReads h value => cases run; exact s.take_evolves h fun _ => .of_desk rfl
  | claim h n => cases run; exact s.take_evolves h fun up => s.claim_evolves h n up
  | release h value => cases run; exact s.take_evolves h fun _ => s.release_evolves h value
  | rearm h value => cases run; exact s.take_evolves h fun _ => s.rearm_evolves h value
  | cfgDataWrite h value => cases run; exact s.take_evolves h fun up => s.cfgDataWrite_evolves h value up
  | cfgCdataWrite h value => cases run; exact s.take_evolves h fun up => s.cfgCdataWrite_evolves h value up
  | registerWrite h width offset value => cases run; exact s.take_evolves h fun up => s.access_evolves h up _
  | attentionLineActive n => cases run; exact s.attentionLine_evolves n true
  | attentionLineInactive n => cases run; exact s.attentionLine_evolves n false
  | tickEvent => cases run; exact s.tickEvent_evolves
  | collectionTimerExpiry h slot offset width => cases run; exact .of_desk rfl
  | lifetimeExpiry e => cases run; exact .of_desk (s.lifetimeExpiry_desk e)
  | claimTimeout n => cases run; exact s.claimTimeout_evolves n
  | holdTimeout n => cases run; exact s.holdTimeout_evolves n
  | selection => cases run; exact .of_desk s.selection_desk
  | setupEnd pdcl => cases run; exact .of_desk (s.setupEnd_desk pdcl)
  | strobePeriodEnd prdy lanes ppar => cases run; exact .of_desk (s.strobePeriodEnd_desk prdy lanes ppar)
  | ready lanes ppar => cases run; exact .of_desk (s.ready_desk lanes ppar)
  | decline => cases run; exact .of_desk s.decline_desk
  | readyLimitExpiry => cases run; exact .of_desk s.readyLimitExpiry_desk
  | recoveryEnd => cases run; exact .of_desk s.recoveryEnd_desk
  | completion => cases run; exact .of_desk s.completion_desk
  | placementPass h => cases run; exact s.placementPass_evolves h
  | portReset h => cases run; exact s.assertPrst_evolves h
  | returnToUp h => cases run; exact s.deassertPrst_evolves h
  | gatewayReset => cases run; exact s.gatewayReset_evolves
  | gatewayResetEnd => cases run; exact s.gatewayResetEnd_evolves

/-- The parts of a step evolve the sources and the ports. -/
theorem evolves_stepClosed : StepClosed State.Evolves where
  refl := .refl
  trans := .trans
  command := exec_evolves
  taken _ _ := .of_desk rfl
  expireDue := State.expireDue_evolves
  divide := State.divide_evolves
  counted _ _ _ _ := .of_desk rfl
  sampled _ _ := .of_desk rfl

end Sys2Proof.Machine

namespace Sys2Proof.Proofs

open Sys2Proof.Machine Sys2Proof.Statements

/-- Settles O58: every part of a step leaves the sources in agreement with their lines, routes and ports. -/
theorem stepKeepsSourcesWithRoutesAndPorts : Obligations.StepKeepsSourcesWithRoutesAndPorts :=
  fun _ _ sound run => (evolves_stepClosed.step run).sources sound

/-- Settles O59: every part of a step leaves the rounds within their bounds, and port by port its levels, its queue and
its notice line. -/
theorem stepKeepsPortsQueuesAndNoticeLines : Obligations.StepKeepsPortsQueuesAndNoticeLines :=
  ⟨fun _ _ within run => (evolves_stepClosed.step run).rounds within,
    fun _ _ levels run h => ((evolves_stepClosed.step run).ports h).level (levels h),
    fun _ _ queues run h => ((evolves_stepClosed.step run).ports h).queue (queues h),
    fun _ _ lines run h =>
      Port.lineLevel_iff.1 (((evolves_stepClosed.step run).ports h).line (Port.lineLevel_iff.2 (lines h)))⟩

end Sys2Proof.Proofs
end

section
/-!
PROOFS. Claims, releases and rearms of an attention source, the changes of its line and its timeouts, each in the terms
of the statements.
-/

namespace Sys2Proof.Machine

open Sys2Proof.Statements

/-! ## Claims -/

section Claims

variable {src : Source} {route : Route} {h g : HostId}

/-- Only GRANTED has the result word 0001h (R177). -/
theorem ClaimResult.word_eq_granted {result : ClaimResult} : result.word = 0x0001#16 ↔ result = .granted := by
  cases result with
  | heldBy g => revert g; decide
  | _ => decide

/-- HELD carries the number of the holder in bits 9:8 (R177). -/
theorem ClaimResult.word_heldBy (g : HostId) : (ClaimResult.heldBy g).word = BitVec.ofNat 16 (3 + 256 * g.val) := by
  revert g
  decide

theorem Source.claimResult_notSubscribed (other : route.subscribes h = false) :
    src.claimResult route h = .notSubscribed := if_pos (Bool.eq_false_iff.1 other)

/-- A claim of a source that another host holds (R94, R95). -/
theorem Source.claimResult_heldBy {timer : Option Nat} (claimed : src.state = .claimed h timer) (ne : h ≠ g)
    (subscribed : route.subscribes g = true) : src.claimResult route g = .heldBy h := by
  simp only [Source.claimResult, subscribed, claimed, ne, not_true_eq_false, if_false]

/-- A claim that is not granted changes nothing (R94). -/
theorem State.claim_refused {s : State} {n : SourceId} {result : ClaimResult}
    (decided : (s.source n).claimResult (s.cfg.route n) h = result) (refused : result ≠ .granted) :
    s.claim h n = (s, .data result.word) := by
  simp only [State.claim, decided, refused, if_false]

/-- After a claim answered GRANTED the source is CLAIMED by the host (R94). -/
theorem State.claimed_of_granted {s t : State} {n : SourceId} (run : exec (.claim h n) s = .next t)
    (granted : (t.port h).answer = some (.data 0x0001#16)) : ∃ timer, (t.source n).state = .claimed h timer := by
  cases run
  rw [State.answer_take] at granted
  split at granted
  · next up =>
    have result : (s.source n).claimResult (s.cfg.route n) h = .granted :=
      ClaimResult.word_eq_granted.1 (Answer.data.inj (Option.some.inj granted))
    rw [State.take_up up, State.source_modPort, State.claim, if_pos result, State.source_modSource_same]
    exact ⟨_, rfl⟩
  · cases granted

end Claims

/-! ## Releases and rearms -/

/-- The values 0 to 7 name the sources (R96, R101). -/
theorem sourceNamed_of_toNat {value : Word} {n : SourceId} (names : value.toNat = n.val) :
    sourceNamed value = some n := by
  have below : value < 8#16 := by
    rw [BitVec.lt_def, names]
    exact n.isLt
  rw [sourceNamed, if_pos below, names]
  exact congrArg some (Fin.ofNat_val_eq_self n)

theorem sourceNamed_eq_none {value : Word} (high : 8 ≤ value.toNat) : sourceNamed value = none :=
  if_neg (BitVec.not_lt.2 high)

section Releases

variable {s : State} {h : HostId} {value : Word} {n : SourceId}

/-- The holder releases the source (R96, R97). -/
theorem State.release_held (names : sourceNamed value = some n) {timer : Option Nat}
    (held : (s.source n).state = .claimed h timer) :
    s.release h value = (s.modSource n fun src => released src (s.cfg.route n) s.upSet, .accept) := by
  simp only [State.release, names, Source.isHeldBy_iff.2 ⟨timer, held⟩, if_true, Source.release_eq]

theorem State.release_notHeld (names : sourceNamed value = some n)
    (notHeld : ∀ timer, (s.source n).state ≠ .claimed h timer) : s.release h value = (s, .fault .notHolder) := by
  have free : (s.source n).isHeldBy h = false := by
    refine Bool.eq_false_iff.2 fun held => ?_
    obtain ⟨timer, claimed⟩ := Source.isHeldBy_iff.1 held
    exact notHeld timer claimed
  simp only [State.release, names, free, Bool.false_eq_true, if_false]

theorem State.rearm_notSubscribed (names : sourceNamed value = some n) (other : (s.cfg.route n).subscribes h = false) :
    s.rearm h value = (s, .fault .notSubscribed) := by
  simp only [State.rearm, names, other, Bool.false_eq_true, not_false_eq_true, if_true]

theorem State.rearm_subscribed (names : sourceNamed value = some n) (here : (s.cfg.route n).subscribes h = true) :
    s.rearm h value = (s.modSource n fun src => src.rearm (s.cfg.route n) s.upSet, .accept) := by
  simp only [State.rearm, names, here, not_true_eq_false, if_false]

end Releases

section Source

variable {src : Source} {route : Route} {up : HostId → Bool}

/-- A STUCK source is rearmed as it is released, without its owed entries (R101). -/
theorem Source.rearm_stuck (stuck : src.state = .stuck) :
    src.rearm route up = released { src with owed := Vector.replicate 4 none } route up := by
  simp only [Source.rearm, stuck, Source.release_eq]
  rw [Source.cancelOwed, stuck]

theorem Source.rearm_notStuck (notStuck : src.state ≠ .stuck) : src.rearm route up = src := by
  unfold Source.rearm
  split
  · next stuck => exact absurd stuck notStuck
  · rfl

/-! ## The line and the timeouts -/

/-- The line becomes active: an IDLE source takes the course of a release (R93, R97). -/
theorem Source.lineActive_eq (src : Source) (route : Route) (up : HostId → Bool) :
    src.lineActive route up =
      if src.state = .idle then released { src with line := true } route up else { src with line := true } := by
  rw [← Source.release_eq]
  by_cases idle : src.state = .idle
  · rw [if_pos idle]
    cases served : route.hasSubscriber <;> simp [Source.lineActive, Source.release, idle, served]
  · simp [Source.lineActive, idle]

theorem Source.claimTimeout_due {round : Nat} (due : src.state = .raised round 0) :
    src.claimTimeout route up =
      if round + 1 < route.repeatLimit then
        owing { src with state := .raised (round + 1) route.claimTimeout } route up (.repeated (round + 1))
      else owing { src with state := .stuck } route up .sourceStuck := by
  simp only [Source.claimTimeout, due, Source.owe_eq]

theorem Source.claimTimeout_notDue (notDue : ∀ round, src.state ≠ .raised round 0) :
    src.claimTimeout route up = src := by
  unfold Source.claimTimeout
  split
  · next due => exact absurd due (notDue _)
  · rfl

theorem Source.holdTimeout_due {holder : HostId} (due : src.state = .claimed holder (some 0)) :
    src.holdTimeout route up = released { src with forced := src.forced.set holder (some .holdExpired) } route up := by
  simp only [Source.holdTimeout, due, Source.release_eq]
  rw [Source.oweForced, due]

theorem Source.holdTimeout_notDue (notDue : ∀ holder, src.state ≠ .claimed holder (some 0)) :
    src.holdTimeout route up = src := by
  unfold Source.holdTimeout
  split
  · next due => exact absurd due (notDue _)
  · rfl

end Source

section Lines

variable {s : State} {n : SourceId} {level : Bool}

/-- A level that the line already has is no change (R93, assumption 6). -/
theorem State.attentionLine_same (same : s.patn[n] = level) : s.attentionLine n level = s := if_pos same

/-- While GRST is asserted the pin alone follows the level (R109). -/
theorem State.attentionLine_grst (on : s.grst = true) :
    s.attentionLine n level = { s with patn := s.patn.set n level } := by
  unfold State.attentionLine
  split
  · next same =>
    have patn : s.patn.set n level = s.patn := by
      rw [← same]
      exact Vector.set_getElem_self n.isLt
    rw [patn]
  · exact if_pos on

theorem State.attentionLine_active (off : s.grst = false) (edge : s.patn[n] = false) :
    s.attentionLine n true =
      State.modSource { s with patn := s.patn.set n true } n fun src => src.lineActive (s.cfg.route n) s.upSet := by
  have off : ¬ s.grst = true := Bool.eq_false_iff.1 off
  have edge : ¬ s.patn[n] = true := Bool.eq_false_iff.1 edge
  rw [State.attentionLine, if_neg edge]
  exact (if_neg off).trans (if_pos rfl)

theorem State.attentionLine_inactive (off : s.grst = false) (edge : s.patn[n] = true) :
    s.attentionLine n false =
      State.modSource { s with patn := s.patn.set n false } n Source.lineInactive := by
  have off : ¬ s.grst = true := Bool.eq_false_iff.1 off
  have edge : ¬ s.patn[n] = false := fun inactive => absurd (inactive.symm.trans edge) nofun
  rw [State.attentionLine, if_neg edge]
  exact (if_neg off).trans (if_neg nofun)

end Lines

end Sys2Proof.Machine

namespace Sys2Proof.Proofs

open Sys2Proof.Machine Sys2Proof.Statements

/-- Settles O40: after the grant the source is CLAIMED by `h`, and a claim of it by `g` meets that. -/
theorem claimsExclude : Obligations.ClaimsExclude := by
  intro s t h g n ne run granted up
  obtain ⟨timer, claimed⟩ := State.claimed_of_granted run granted
  refine congrArg Host.Outcome.next (State.take_answering up ?_)
  split
  · next subscribed =>
    rw [State.claim_refused (Source.claimResult_heldBy claimed ne subscribed) nofun, ClaimResult.word_heldBy]
  · next other =>
    rw [State.claim_refused (Source.claimResult_notSubscribed (Bool.eq_false_iff.2 other)) nofun]
    rfl

/-- Settles O41, by the value written and the state of the source that it names. -/
theorem releaseAndRearm : Obligations.ReleaseAndRearm := by
  intro h value s up
  have releases {u : State} {a : Answer} (decided : s.release h value = (u, a)) :
      exec (.release h value) s = .next (answering u h a) :=
    congrArg Host.Outcome.next (State.take_answering up decided)
  have rearms {u : State} {a : Answer} (decided : s.rearm h value = (u, a)) :
      exec (.rearm h value) s = .next (answering u h a) :=
    congrArg Host.Outcome.next (State.take_answering up decided)
  refine ⟨fun high => ⟨releases ?_, rearms ?_⟩, fun n names => ?_⟩
  · simp only [State.release, sourceNamed_eq_none high]
  · simp only [State.rearm, sourceNamed_eq_none high]
  have names := sourceNamed_of_toNat names
  refine ⟨fun timer held => releases (State.release_held names held),
    fun notHeld => releases (State.release_notHeld names notHeld),
    fun other => rearms (State.rearm_notSubscribed names other), fun here stuck => rearms ?_,
    fun here notStuck => rearms ?_⟩
  · exact (State.rearm_subscribed names here).trans
      (congrArg (·, Answer.accept) (State.modSource_congr (Source.rearm_stuck stuck)))
  · rw [State.rearm_subscribed names here, State.modSource_eq_self (Source.rearm_notStuck notStuck)]

/-- Settles O42, by GRST and the level that the line has. -/
theorem attentionLineChanges : Obligations.AttentionLineChanges := by
  intro n s
  refine ⟨fun same => congrArg Host.Outcome.next (State.attentionLine_same same),
    fun same => congrArg Host.Outcome.next (State.attentionLine_same same),
    fun on => ⟨congrArg Host.Outcome.next (State.attentionLine_grst on),
      congrArg Host.Outcome.next (State.attentionLine_grst on)⟩,
    fun off edge => congrArg Host.Outcome.next ((State.attentionLine_active off edge).trans ?_),
    fun off edge => congrArg Host.Outcome.next ((State.attentionLine_inactive off edge).trans ?_)⟩
  · exact State.modSource_congr (Source.lineActive_eq _ _ _)
  · refine State.modSource_congr ?_
    unfold Source.lineInactive
    rcases (State.source _ n).state with _ | _ | _ | _ <;> rfl

/-- Settles O43, by whether the timer of the source's state stands at 0. -/
theorem claimAndHoldTimeouts : Obligations.ClaimAndHoldTimeouts := by
  intro n s
  refine ⟨fun round due => ?_, fun notDue => ?_, fun holder due => ?_, fun notDue => ?_⟩ <;>
    refine congrArg Host.Outcome.next ?_
  · exact State.modSource_congr (Source.claimTimeout_due due)
  · exact State.modSource_eq_self (Source.claimTimeout_notDue notDue)
  · exact State.modSource_congr (Source.holdTimeout_due due)
  · exact State.modSource_eq_self (Source.holdTimeout_notDue notDue)

end Sys2Proof.Proofs
end

section
/-!
PROOFS. A route change by a configuration write: the state and the entries of the source after it, in the terms of the
statement.
-/

namespace Sys2Proof.Machine

open Sys2Proof.Statements

/-! ## The conditions of a route change -/

section Conditions

variable {src : Source} {old new : Route}

theorem Route.hasSubscriber_iff {route : Route} : route.hasSubscriber = true ↔ route.subscribers ≠ 0#4 := bne_iff_ne

theorem Route.hasSubscriber_eq_false {route : Route} : route.hasSubscriber = false ↔ route.subscribers = 0#4 := by
  simp [Route.hasSubscriber]

/-- The source is raised anew (R97, R104, R106). -/
theorem Source.raisedAnew_iff :
    src.raisedAnew old new = true ↔
      src.line = true ∧ new.subscribers ≠ 0#4 ∧
        ((∃ g timer, src.state = .claimed g timer ∧ (old.subscribes g = true ∧ new.subscribes g = false)) ∨
          (src.state = .idle ∧ old.subscribers = 0#4)) := by
  simp only [Source.raisedAnew, Bool.and_eq_true, Bool.or_eq_true, decide_eq_true_eq, Bool.not_eq_true',
    Source.loses_iff, Route.removes_iff, Route.hasSubscriber_iff, Route.hasSubscriber_eq_false, and_assoc]

/-- A source that is not raised anew becomes IDLE where its claim is lost, or where it is RAISED or STUCK and the last
subscriber is removed (R97, R105). -/
theorem Source.falls_iff :
    src.falls old new = true ↔
      (∃ g timer, src.state = .claimed g timer ∧ old.subscribes g = true ∧ new.subscribes g = false) ∨
        ((src.state = .stuck ∨ ∃ round timer, src.state = .raised round timer) ∧ new.subscribers = 0#4 ∧
          old.subscribers ≠ new.subscribers) := by
  simp only [Source.falls, Bool.and_eq_true, Bool.or_eq_true, decide_eq_true_eq, Bool.not_eq_true', Source.loses_iff,
    Route.removes_iff, Route.hasSubscriber_eq_false, and_assoc, Option.isSome_iff_exists, Source.catchUpKind_isSome]

/-- A RAISED or STUCK source is not raised anew (R106). -/
theorem Source.raisedAnew_of_waiting {kind : AttentionKind} (tells : src.catchUpKind = some kind) :
    src.raisedAnew old new = false := by
  refine Bool.eq_false_iff.2 fun anew => ?_
  obtain ⟨-, -, ⟨g, timer, claimed, -⟩ | ⟨idle, -⟩⟩ := Source.raisedAnew_iff.1 anew
  · simp [Source.catchUpKind, claimed] at tells
  · cases (Source.catchUpKind_idle idle).symm.trans tells

end Conditions

/-! ## The source after a route change -/

section After

variable {src : Source} {old new : Route} {up : HostId → Bool} {g : HostId}

/-- A source raised anew owes every subscriber that is UP its entry (R97, R106). -/
theorem Source.routeChange_anew (anew : src.raisedAnew old new = true) :
    (src.routeChange old new up).state = .raised 0 new.claimTimeout ∧
      ∀ g, new.subscribes g = true → up g = true →
        (src.routeChange old new up).owed[g] = some { kind := .attention 0, priority := new.priority } := by
  rcases src.routeChange_cases old new up with ⟨-, e⟩ | ⟨quiet, -⟩ | ⟨quiet, -⟩ | ⟨quiet, -⟩
  · rw [e]
    refine ⟨rfl, fun g subscribed here => ?_⟩
    rw [Source.raise_owed, subscribed, here]
    rfl
  all_goals cases quiet.symm.trans anew

theorem Source.routeChange_fallen (quiet : src.raisedAnew old new = false) (falls : src.falls old new = true) :
    (src.routeChange old new up).state = .idle := by
  rcases src.routeChange_cases old new up with ⟨anew, -⟩ | ⟨-, -, e⟩ | ⟨-, stays, -⟩ | ⟨-, stays, -⟩
  · cases quiet.symm.trans anew
  · rw [e]
  all_goals cases stays.symm.trans falls

theorem Source.routeChange_state (quiet : src.raisedAnew old new = false) (stays : src.falls old new = false) :
    (src.routeChange old new up).state = src.state := by
  rcases src.routeChange_cases old new up with ⟨anew, -⟩ | ⟨-, falls, -⟩ | ⟨-, -, _, -, e⟩ | ⟨-, -, -, e⟩
  · cases quiet.symm.trans anew
  · cases stays.symm.trans falls
  all_goals rw [e]; rfl

/-- The holder removed is owed its forced release, and no other forced-release entry changes (R104). -/
theorem Source.routeChange_forced (src : Source) (old new : Route) (up : HostId → Bool) (g : HostId) :
    (src.routeChange old new up).forced[g] =
      if old.removes new g && src.isHeldBy g then some .routeChanged else src.forced[g] := by
  rw [← Source.moved_forced]
  rcases src.routeChange_cases old new up with ⟨-, e⟩ | ⟨-, -, e⟩ | ⟨-, -, _, -, e⟩ | ⟨-, -, -, e⟩ <;> rw [e] <;> rfl

/-- A host removed is owed no attention entry (R104). -/
theorem Source.routeChange_owed_removed (removed : old.removes new g = true) :
    (src.routeChange old new up).owed[g] = none := by
  have moved : (src.moved old new).owed[g] = none := by rw [Source.moved_owed, if_pos removed]
  obtain ⟨-, gone⟩ := Route.removes_iff.1 removed
  rcases src.routeChange_cases old new up with ⟨-, e⟩ | ⟨-, -, e⟩ | ⟨-, -, _, -, e⟩ | ⟨-, -, -, e⟩ <;> rw [e]
  · rw [Source.raise_owed, gone]
    exact moved
  · exact moved
  · rw [Source.informed_owed, gone, Bool.and_false]
    exact moved
  · exact moved

/-- A host that is not removed keeps its entry where it is no subscriber or DOWN, and where the source is not raised
anew and the host is not told (R104, R106). -/
theorem Source.routeChange_owed_kept (stays : old.removes new g = false)
    (untold : (new.subscribes g && up g) = false ∨
      src.raisedAnew old new = false ∧ (old.subscribes g = new.subscribes g ∨ src.catchUpKind = none)) :
    (src.routeChange old new up).owed[g] = src.owed[g] := by
  have moved : (src.moved old new).owed[g] = src.owed[g] := by
    rw [Source.moved_owed, stays]
    rfl
  rcases src.routeChange_cases old new up with ⟨anew, e⟩ | ⟨-, -, e⟩ | ⟨-, -, kind, tells, e⟩ | ⟨-, -, -, e⟩ <;> rw [e]
  · have away : (new.subscribes g && up g) = false := by simpa [anew] using untold
    rw [Source.raise_owed, away]
    exact moved
  · exact moved
  · have notAdded : (!old.subscribes g && new.subscribes g && up g) = false := by
      rcases untold with away | ⟨-, same | quiet⟩
      · rw [Bool.and_assoc, away, Bool.and_false]
      · rw [same, Bool.not_and_self, Bool.false_and]
      · cases quiet.symm.trans tells
    rw [Source.informed_owed, notAdded]
    exact moved
  · exact moved

/-- A host added to a RAISED or STUCK source is told its state, where it is UP (R106). -/
theorem Source.routeChange_added {kind : AttentionKind} (tells : src.catchUpKind = some kind)
    (before : old.subscribes g = false) (subscribed : new.subscribes g = true) (here : up g = true) :
    (src.routeChange old new up).state = src.state ∧
      (src.routeChange old new up).owed[g] = some { kind := kind, priority := new.priority } := by
  have served : new.hasSubscriber = true := Route.hasSubscriber_of_subscribes subscribed
  have changed : old.subscribers ≠ new.subscribers := fun same => by
    rw [Route.subscribes, same] at before
    cases before.symm.trans subscribed
  rw [Source.routeChange_waiting changed tells, if_pos served]
  refine ⟨rfl, ?_⟩
  rw [Source.informed_owed, before, subscribed, here]
  rfl

end After

end Sys2Proof.Machine

namespace Sys2Proof.Proofs

open Sys2Proof.Machine Sys2Proof.Statements

/-- Settles O44: the source undergoes the route change, and each clause is one fact about that. -/
theorem routeChangeMovesSubscribers : Obligations.RouteChangeMovesSubscribers := by
  intro h v s n t up names legal run
  have accepted : exec (.cfgDataWrite h v) s = .next (answering (s.acceptWrite h (.routeA n) v) h .accept) :=
    congrArg Host.Outcome.next (State.take_answering up (State.cfgDataWrite_accepted names legal))
  obtain rfl := Host.Outcome.next.inj (run.symm.trans accepted)
  intro old new
  have route : new = routeOf v s.cfg.routeB[n] := by
    refine (congrArg (·.route n) (s.acceptWrite_cfg h (.routeA n) v)).trans ?_
    rw [ConfigSet.route_store, if_pos rfl, if_neg nofun]
  have after : (answering (s.acceptWrite h (.routeA n) v) h .accept).source n =
      (s.source n).routeChange old new s.upSet := s.acceptWrite_source h (.routeA n) v n
  refine ⟨route, fun m other => ?_, ?_⟩
  · exact s.acceptWrite_source_other h v fun same => other (Item.routeA.inj same).symm
  rw [after]
  clear_value old new
  clear after route accepted run
  generalize s.source n = src
  refine ⟨src.routeChange_line old new _, fun same => if_pos same, ?_, ?_, ?_, ?_, ?_⟩
  · intro g timer claimed before gone
    have removed : old.removes new g = true := Route.removes_iff.2 ⟨before, gone⟩
    have held : src.isHeldBy g = true := Source.isHeldBy_iff.2 ⟨timer, claimed⟩
    have lost : ∃ g timer, src.state = .claimed g timer ∧ old.subscribes g = true ∧ new.subscribes g = false :=
      ⟨g, timer, claimed, before, gone⟩
    refine ⟨?_, Source.routeChange_owed_removed removed, ?_⟩
    · rw [Source.routeChange_forced, removed, held]
      rfl
    · split
      · next anew => exact (Source.routeChange_anew (Source.raisedAnew_iff.2 ⟨anew.1, anew.2, .inl lost⟩)).1
      · next ends =>
        refine Source.routeChange_fallen (Bool.eq_false_iff.2 fun anew => ?_) (Source.falls_iff.2 (.inl lost))
        obtain ⟨line, served, -⟩ := Source.raisedAnew_iff.1 anew
        exact ends ⟨line, served⟩
  · intro empty changed waiting
    refine Source.routeChange_fallen ?_ (Source.falls_iff.2 (.inr ⟨waiting, empty, changed⟩))
    obtain ⟨kind, tells⟩ := Source.catchUpKind_isSome.2 waiting
    exact Source.raisedAnew_of_waiting tells
  · intro empty served idle line
    exact Source.routeChange_anew (Source.raisedAnew_iff.2 ⟨line, served, .inr ⟨idle, empty⟩⟩)
  · intro g kind before subscribed here tells
    exact Source.routeChange_added (src.catchUpKind_eq.trans tells) before subscribed here
  intro removed holderRemoved raised
  have notRemoved {g : HostId} (stays : ¬ removed g) : old.removes new g = false :=
    Bool.eq_false_iff.2 (mt Route.removes_iff.1 stays)
  have quiet (notRaised : ¬ raised) : src.raisedAnew old new = false :=
    Bool.eq_false_iff.2 (mt Source.raisedAnew_iff.1 notRaised)
  refine ⟨fun g gone => Source.routeChange_owed_removed (Route.removes_iff.2 gone), ?_, ?_, ?_, ?_, ?_⟩
  · intro g other
    rw [Source.routeChange_forced, if_neg]
    rw [Bool.and_eq_true, Route.removes_iff, Source.isHeldBy_iff]
    exact other
  · exact fun anew => Source.routeChange_anew (Source.raisedAnew_iff.2 anew)
  · intro notRaised g stays untold
    rw [← src.catchUpKind_eq] at untold
    exact Source.routeChange_owed_kept (notRemoved stays) (.inr ⟨quiet notRaised, untold⟩)
  · intro g stays away
    refine Source.routeChange_owed_kept (notRemoved stays) (.inl (Bool.and_eq_false_iff.2 away))
  · intro notRaised kept empties
    refine Source.routeChange_state (quiet notRaised) (Bool.eq_false_iff.2 fun falls => ?_)
    rcases Source.falls_iff.1 falls with lost | ⟨waiting, empty, -⟩
    · exact kept lost
    · rcases empties empty with st | ⟨_, _, st⟩ <;> simp [st] at waiting

end Sys2Proof.Proofs
end

section
/-!
PROOFS. Notice queues and notice lines: where a placement puts its notice, what a whole pass places and leaves, and the
registers of the control window that report, pop the queue or set THRESHOLD.
-/

namespace Sys2Proof.Machine

open Sys2Proof.Statements

/-! ## The place of a notice in its queue -/

section Queue

variable {n : Notice} {queue : List Notice}

/-- A notice goes behind this one: its priority is equal or lower (R113). -/
def Notice.goesBehind (n m : Notice) : Bool := n.priority ≤ m.priority

theorem Notice.goesBehind_iff {n m : Notice} : n.goesBehind m = true ↔ n.priority ≤ m.priority := decide_eq_true_iff

/-- A notice goes in front of the first one that it does not go behind (R113). -/
theorem insertNotice_eq_append (n : Notice) (queue : List Notice) :
    insertNotice n queue = queue.takeWhile n.goesBehind ++ n :: queue.dropWhile n.goesBehind := by
  induction queue with
  | nil => rfl
  | cons m queue ih =>
    by_cases behind : n.goesBehind m = true
    · have notLower : ¬ m.priority < n.priority := BitVec.not_lt.2 (Notice.goesBehind_iff.1 behind)
      simp [insertNotice, notLower, behind, ih]
    · have lower : m.priority < n.priority := BitVec.not_le.1 (mt Notice.goesBehind_iff.2 behind)
      simp [insertNotice, lower, behind]

/-- In a queue in order every notice from the first one of lower priority on is of lower priority. -/
theorem lower_of_mem_dropWhile (order : queue.Pairwise fun a b => b.priority ≤ a.priority) {m : Notice}
    (mem : m ∈ queue.dropWhile n.goesBehind) : m.priority < n.priority := by
  induction queue with
  | nil => simp at mem
  | cons first queue ih =>
    obtain ⟨head, tail⟩ := List.pairwise_cons.1 order
    by_cases behind : n.goesBehind first = true
    · exact ih tail (by simpa [behind] using mem)
    · have lower : first.priority < n.priority := BitVec.not_le.1 (mt Notice.goesBehind_iff.2 behind)
      have mem : m = first ∨ m ∈ queue := by simpa [behind] using mem
      rcases mem with rfl | mem
      · exact lower
      · exact Nat.lt_of_le_of_lt (head m mem) lower

/-- A placement keeps the notices of the queue and their order. -/
theorem sublist_insertNotice (n : Notice) (queue : List Notice) : queue.Sublist (insertNotice n queue) := by
  calc queue
    _ = queue.takeWhile n.goesBehind ++ queue.dropWhile n.goesBehind := List.takeWhile_append_dropWhile.symm
    List.Sublist _ (queue.takeWhile n.goesBehind ++ n :: queue.dropWhile n.goesBehind) :=
      (List.sublist_cons_self n _).append_left _
    _ = insertNotice n queue := (insertNotice_eq_append n queue).symm

end Queue

/-! ## The placements of a pass -/

section Placements

variable {s t u : State} {h : HostId} {j k : Nat}

/-- `t` is `s` after `k` placements for host `h`: its queue holds `k` notices more among those it held, its sequence
counter stands `k` higher, and no other port, no target and no transfer is touched (R113, R114). -/
structure State.Places (h : HostId) (k : Nat) (s t : State) : Prop where
  length : (t.port h).queue.length = (s.port h).queue.length + k
  kept : (s.port h).queue.Sublist (t.port h).queue
  sequence : (t.port h).sequence = (s.port h).sequence + BitVec.ofNat 8 k
  others : ∀ g, g ≠ h → t.port g = s.port g
  sequencer : t.sequencer = s.sequencer
  bus : t.bus = s.bus

/-- Where the ports, the sequencer and the bus stay, nothing is placed. -/
theorem State.Places.of_untouched (ports : t.ports = s.ports) (sequencer : t.sequencer = s.sequencer)
    (bus : t.bus = s.bus) : State.Places h 0 s t := by
  have port (g : HostId) : t.port g = s.port g := congrArg (·[g]) ports
  refine ⟨?_, ?_, ?_, fun g _ => port g, sequencer, bus⟩ <;> simp [port]

theorem State.Places.trans (first : State.Places h j s t) (second : State.Places h k t u) :
    State.Places h (j + k) s u where
  length := by rw [second.length, first.length, Nat.add_assoc]
  kept := first.kept.trans second.kept
  sequence := by rw [second.sequence, first.sequence, BitVec.ofNat_add, BitVec.add_assoc]
  others g other := (second.others g other).trans (first.others g other)
  sequencer := second.sequencer.trans first.sequencer
  bus := second.bus.trans first.bus

/-- The end of a delivery's waiting places nothing yet (R117). -/
theorem State.endWaiting_places (s : State) (h : HostId) (d : Delivery) : State.Places h 0 s (s.endWaiting h d) := by
  cases d with
  | changed writer =>
    refine ⟨?_, ?_, ?_, fun g other => State.port_modPort_ne s _ other, rfl, rfl⟩ <;> simp [State.endWaiting]
  | _ => exact .of_untouched rfl rfl rfl

/-- One delivery places one notice (R113, R114, R117). -/
theorem State.placeDelivery_places (s : State) (h : HostId) (d : Delivery) :
    State.Places h 1 s (s.placeDelivery h d) := by
  have placed : State.Places h 1 (s.endWaiting h d) (s.placeDelivery h d) := by
    refine ⟨?_, ?_, ?_, fun g other => State.port_modPort_ne _ _ other, rfl, rfl⟩ <;>
      simp [State.placeDelivery, Port.placeNotice, Port.evalLine, sublist_insertNotice]
  exact (s.endWaiting_places h d).trans placed

/-- A pass uses up the room that it is given, or ends with no delivery waiting (R116). -/
theorem State.placeUpTo_places (s : State) (h : HostId) (room : Nat) :
    ∃ k, State.Places h k s (s.placeUpTo h room) ∧ k ≤ room ∧
      (k = room ∨ (s.placeUpTo h room).nextDelivery h = none) := by
  induction room generalizing s with
  | zero => exact ⟨0, .of_untouched rfl rfl rfl, le_rfl, .inl rfl⟩
  | succ room ih =>
    unfold State.placeUpTo
    split
    · next drained => exact ⟨0, .of_untouched rfl rfl rfl, Nat.zero_le _, .inr drained⟩
    · next d _ =>
      obtain ⟨k, places, bound, ends⟩ := ih (s.placeDelivery h d)
      exact ⟨1 + k, (s.placeDelivery_places h d).trans places, by omega, ends.imp_left (by omega)⟩

theorem State.placementPass_up (up : (s.port h).up = true) :
    s.placementPass h = s.placeUpTo h (8 - (s.port h).queue.length) := if_pos up

theorem State.placementPass_down (down : (s.port h).up = false) : s.placementPass h = s :=
  if_neg (Bool.eq_false_iff.1 down)

end Placements

/-! ## Registers of the control window -/

section Registers

variable {s : State} {h : HostId} {reg : ControlReg} {value : Word}

/-- A WORD read at the offset of a register with read access is decided by that register's owner (R170). -/
theorem exec_portStatus_reg (up : (s.port h).up = true) (readable : reg.readable = true) :
    exec (.portStatus h .word reg.offset) s = .next (answering (s.readReg h reg).1 h (s.readReg h reg).2) := by
  have decoded : controlRead .word reg.offset = .readReg reg := by simp [controlRead, readable]
  refine congrArg Host.Outcome.next (State.take_answering up ?_)
  rw [decoded]
  rfl

/-- A WORD write at the offset of a register with write access is decided by that register's owner (R170). -/
theorem exec_registerWrite_reg (up : (s.port h).up = true) (writable : reg.writable = true) :
    exec (.registerWrite h .word reg.offset value) s =
      .next (answering (s.writeReg h value reg).1 h (s.writeReg h value reg).2) := by
  have decoded : controlWrite .word reg.offset value = .writeReg reg value := by simp [controlWrite, writable]
  refine congrArg Host.Outcome.next (State.take_answering up ?_)
  rw [decoded]
  rfl

/-- The item at an index has that index: the map ends below 40h, where it is looked up index by index (R128). -/
theorem itemIndex_of_itemAt {index : Word} {item : Item} (found : itemAt index = some item) :
    index.toNat = itemIndex item := by
  have table : ∀ i : Fin 64, ∀ item ∈ itemAt (BitVec.ofNat 16 i), i = itemIndex item := by decide
  have low : index.toNat < 64 := by
    by_contra high
    simp (disch := omega) only [itemAt, if_neg, reduceCtorEq] at found
  refine table ⟨index.toNat, low⟩ item ?_
  rw [BitVec.ofNat_toNat, BitVec.setWidth_eq, found]
  rfl

theorem State.cfgDataRead_named {item : Item} (names : Names s h item) :
    s.cfgDataRead h = .data (s.cfg.read item) := by
  rw [State.cfgDataRead, itemAt_of_names names]

theorem State.cfgDataRead_unmapped (unmapped : ∀ item, ¬ Names s h item) :
    s.cfgDataRead h = .fault .badAddress := by
  have nothing : itemAt (s.port h).cfgIndex = none :=
    Option.eq_none_iff_forall_ne_some.2 fun item found => unmapped item (itemIndex_of_itemAt found)
  rw [State.cfgDataRead, nothing]

end Registers

/-! ## Pop and THRESHOLD -/

section Writes

variable {s : State} {h : HostId} {value : Word}

theorem State.pop_empty (empty : (s.port h).queue = []) : s.pop h = (s, .fault .queueEmpty) := by
  simp only [State.pop, empty]

theorem State.pop_cons {n : Notice} {rest : List Notice} (up : (s.port h).up = true)
    (queue : (s.port h).queue = n :: rest) :
    s.pop h =
      (s.modPort h fun p => { p with queue := rest, nline := rest.any fun m => decide (p.threshold ≤ m.priority) },
        .accept) := by
  simp only [State.pop, queue, Prod.mk.injEq, and_true]
  refine State.modPort_congr ?_
  simp [Port.evalLine, Port.lineLevel, up]

theorem threshold_legal_iff : ¬ (value = 0#16 ∨ 3#16 < value) ↔ 1 ≤ value.toNat ∧ value.toNat ≤ 3 := by
  bv_omega

/-- A legal THRESHOLD is the whole number written, and the line is evaluated with it (R122, R123). -/
theorem State.writeThreshold_legal (up : (s.port h).up = true) (legal : 1 ≤ value.toNat ∧ value.toNat ≤ 3) :
    s.writeThreshold h value =
      (s.modPort h fun p =>
        { p with
          threshold := value.setWidth 2
          nline := p.queue.any fun n => decide (value.toNat ≤ n.priority.toNat) },
        .accept) := by
  have field : value.extractLsb' 0 2 = value.setWidth 2 :=
    (BitVec.setWidth_eq_extractLsb' (by decide)).symm
  have whole : (value.setWidth 2).toNat = value.toNat := by
    rw [BitVec.toNat_setWidth]
    omega
  rw [State.writeThreshold, if_neg (threshold_legal_iff.2 legal), Prod.mk.injEq]
  refine ⟨State.modPort_congr ?_, rfl⟩
  simp [Port.evalLine, Port.lineLevel, up, field, BitVec.le_def, whole]

theorem State.writeThreshold_illegal (illegal : ¬ (1 ≤ value.toNat ∧ value.toNat ≤ 3)) :
    s.writeThreshold h value = (s, .fault .badValue) :=
  if_pos (not_not.1 (mt threshold_legal_iff.1 illegal))

end Writes

end Sys2Proof.Machine

namespace Sys2Proof.Proofs

open Sys2Proof.Machine Sys2Proof.Statements

/-- Settles O45: the pass is a run of placements, which ends with the room used up or with nothing to place. -/
theorem passEndsFullOrDrained : Obligations.PassEndsFullOrDrained := by
  intro s h
  refine ⟨fun down => congrArg Host.Outcome.next (State.placementPass_down down), fun up => ?_⟩
  refine ⟨s.placementPass h, rfl, ?_⟩
  have governor := s.placementPass_governor h
  have lines := s.placementPass_lineView h
  obtain ⟨k, places, bound, ends⟩ := s.placeUpTo_places h (8 - (s.port h).queue.length)
  rw [← State.placementPass_up up] at places ends
  have length := places.length
  refine ⟨ends.imp_left (by omega), by omega, places.kept, ?_, places.others, congrArg Governor.cfg governor,
    congrArg LineView.lines lines, congrArg Governor.arbiter governor, places.sequencer, places.bus,
    congrArg Governor.timebase governor⟩
  rw [places.sequence, length, Nat.add_sub_cancel_left]

/-- Settles O47: the queue is cut in front of its first notice of lower priority. -/
theorem placementKeepsPriorityOrder : Obligations.PlacementKeepsPriorityOrder := by
  intro n queue order
  refine ⟨_, _, List.takeWhile_append_dropWhile.symm, insertNotice_eq_append n queue, fun m mem => ?_,
    fun m mem => lower_of_mem_dropWhile order mem, insertNotice_pairwise order⟩
  exact Notice.goesBehind_iff.1 (List.mem_takeWhile_imp mem)

/-- Settles O10, register by register. -/
theorem controlRegistersReadAndWrite : Obligations.ControlRegistersReadAndWrite := by
  intro h s up
  have reads (reg : ControlReg) (readable : reg.readable = true) :=
    exec_portStatus_reg (s := s) (h := h) up readable
  refine ⟨reads .statusSecond rfl, reads .threshold rfl, reads .cfgIndex rfl, reads .cfgExpect rfl,
    reads .cfgGen rfl, fun item names => ?_, fun unmapped => ?_, fun value => ⟨?_, ?_⟩⟩
  · rw [← State.cfgDataRead_named names]
    exact reads .cfgData rfl
  · rw [← State.cfgDataRead_unmapped unmapped]
    exact reads .cfgData rfl
  · exact exec_registerWrite_reg (reg := .cfgIndex) up rfl
  · exact exec_registerWrite_reg (reg := .cfgExpect) up rfl

/-- Settles O12, by whether the value is legal. -/
theorem thresholdWrite : Obligations.ThresholdWrite := by
  intro h value s up
  refine congrArg Host.Outcome.next ?_
  split
  · next legal => exact State.take_answering up (State.writeThreshold_legal up legal)
  · next illegal => exact State.take_answering up (State.writeThreshold_illegal illegal)

/-- Settles O13, by whether the queue is empty. -/
theorem popRemovesTheHead : Obligations.PopRemovesTheHead := by
  intro h value s up
  refine ⟨fun empty => ?_, fun n rest queue => ?_⟩
  · exact congrArg Host.Outcome.next (State.take_answering up (State.pop_empty empty))
  · exact congrArg Host.Outcome.next (State.take_answering up (State.pop_cons up queue))

end Sys2Proof.Proofs
end

section
/-!
PROOFS. The configuration set: its items by index, their legal values, what a write of the set decides and what an
accepted one changes, and the commands that can change the set at all.
-/

namespace Sys2Proof

/-! ## The decode of the words that commands write -/

variable (width : Width) (slot : SlotId) (offset value : Word) (control : BitVec 8)

theorem decodeRequest_slotRead (data : Word) :
    decodeRequest (slotRequestWord 0#1 width slot offset) data = .slotRead slot offset width := by
  simp [decodeRequest]

theorem decodeRequest_slotWrite :
    decodeRequest (slotRequestWord 1#1 width slot offset) value = .slotWrite slot offset width value := by
  simp [decodeRequest]

theorem decodeRequest_controlRead (data : Word) :
    decodeRequest (controlRequestWord 0#1 width control) data = controlRead width control := by
  simp [decodeRequest]

theorem decodeRequest_controlWrite :
    decodeRequest (controlRequestWord 1#1 width control) value = controlWrite width control value := by
  simp [decodeRequest]

/-- A WORD write at the offset of a register with write access passes the three tests of R170. -/
theorem controlWrite_offset {reg : ControlReg} (writable : reg.writable = true) :
    controlWrite .word reg.offset value = .writeReg reg value := by
  simp [controlWrite, writable]

/-- A WORD read at the offset of a register with read access passes the three tests of R170. -/
theorem controlRead_offset {reg : ControlReg} (readable : reg.readable = true) :
    controlRead .word reg.offset = .readReg reg := by
  simp [controlRead, readable]

variable {width value control}

/-- A control write that passes decode carries the value written. -/
theorem value_of_controlWrite {reg : ControlReg} {v : Word}
    (decoded : controlWrite width control value = .writeReg reg v) : v = value := by
  unfold controlWrite at decoded
  split at decoded
  · split at decoded <;> cases decoded
    rfl
  · cases decoded

/-- A request that decodes to a register write carries its data word (R174). -/
theorem value_of_decodeRequest {word : BitVec 24} {reg : ControlReg} {v : Word}
    (decoded : decodeRequest word value = .writeReg reg v) : v = value := by
  unfold decodeRequest at decoded
  split at decoded
  · cases decoded
  · split at decoded <;> cases decoded
  · split at decoded
    · exact value_of_controlWrite decoded
    · unfold controlRead at decoded
      split at decoded
      · split at decoded <;> cases decoded
      · cases decoded

end Sys2Proof

namespace Sys2Proof.Machine

open Sys2Proof.Statements

/-! ## Legal values -/

section Legal

variable {v : Word} {item : Item}

theorem field_eq (v : Word) (lo len : Nat) : field v lo len = v.toNat / 2 ^ lo % 2 ^ len := by
  rw [field, BitVec.extractLsb'_toNat, Nat.shiftRight_eq_div_pow]

/-- The mask of the field of `len` bits from bit `lo` on. -/
def fieldMask (lo len : Nat) : Word := (BitVec.allOnes len).setWidth 16 <<< lo

theorem getLsbD_fieldMask {lo len i : Nat} (low : i < 16) :
    (fieldMask lo len).getLsbD i = decide (lo ≤ i ∧ i < lo + len) := by
  simp only [fieldMask, BitVec.getLsbD_shiftLeft, BitVec.getLsbD_setWidth, BitVec.getLsbD_allOnes]
  rw [Bool.eq_iff_iff]
  simp
  omega

/-- The bits under a field's mask are 0 where the field is. -/
theorem and_fieldMask_eq_zero {lo len : Nat} (fits : lo + len ≤ 16) :
    v &&& fieldMask lo len = 0#16 ↔ field v lo len = 0 := by
  have bits : v &&& fieldMask lo len = 0#16 ↔ ∀ i < len, v.getLsbD (lo + i) = false := by
    refine ⟨fun zero i lt => ?_, fun zero => BitVec.eq_of_getLsbD_eq fun i low => ?_⟩
    · have bit : (v &&& fieldMask lo len).getLsbD (lo + i) = false := by simp [zero]
      simpa [getLsbD_fieldMask (show lo + i < 16 by omega), lt] using bit
    · rw [BitVec.getLsbD_and, getLsbD_fieldMask low]
      by_cases inside : lo ≤ i ∧ i < lo + len
      · have bit := zero (i - lo) (by omega)
        rw [Nat.add_sub_cancel' inside.1] at bit
        simp [bit]
      · simp [inside]
  have extracted : field v lo len = 0 ↔ v.extractLsb' lo len = 0#len := by simp [field, BitVec.toNat_eq]
  rw [bits, extracted]
  refine ⟨fun zero => BitVec.eq_of_getLsbD_eq fun i lt => ?_, fun zero i lt => ?_⟩
  · simp [zero i lt]
  · have bit : (v.extractLsb' lo len).getLsbD i = false := by simp [zero]
    simpa [lt] using bit

/-- The runs of bits of an item's word that belong to no field, each by its first bit and its length (R180, R181). -/
def Item.zeroFields : Item → List (Nat × Nat)
  | .tickDiv | .collectLimit | .routeB _ => []
  | .lineLife => [(8, 8)]
  | .arbQuantum => [(2, 14)]
  | .quota _ => [(6, 10)]
  | .subscribers => [(4, 12)]
  | .mode _ => [(3, 1), (6, 10)]
  | .timingA _ => [(4, 4), (14, 2)]
  | .timingB _ => [(6, 2)]
  | .routeA _ => [(6, 2), (11, 5)]

theorem Item.zeroBits_eq (item : Item) :
    item.zeroBits = (item.zeroFields.map fun run => fieldMask run.1 run.2).foldr (· ||| ·) 0#16 := by
  cases item <;> rfl

theorem Item.zeroFields_fit (item : Item) : ∀ run ∈ item.zeroFields, run.1 + run.2 ≤ 16 := by
  cases item <;> simp [Item.zeroFields]

/-- The bits under several masks are 0 where the field of each is. -/
theorem and_fieldMasks_eq_zero {runs : List (Nat × Nat)} (fit : ∀ run ∈ runs, run.1 + run.2 ≤ 16) :
    v &&& (runs.map fun run => fieldMask run.1 run.2).foldr (· ||| ·) 0#16 = 0#16 ↔
      ∀ run ∈ runs, field v run.1 run.2 = 0 := by
  induction runs with
  | nil => simp
  | cons run runs ih =>
    obtain ⟨first, rest⟩ := List.forall_mem_cons.1 fit
    rw [List.map_cons, List.foldr_cons, BitVec.and_or_distrib_left, BitVec.or_eq_zero_iff, and_fieldMask_eq_zero first,
      ih rest, List.forall_mem_cons]

/-- A legal value is 0 outside the item's fields and has each field in its range (R129). -/
theorem Item.legal_iff :
    item.legal v = true ↔ (∀ run ∈ item.zeroFields, field v run.1 run.2 = 0) ∧ item.fieldsInRange v = true := by
  rw [← and_fieldMasks_eq_zero item.zeroFields_fit, ← item.zeroBits_eq]
  simp [Item.legal]

/-- The legal values of an item as numbers (R128, R129). -/
theorem Item.legal_iff_legalNumber (item : Item) (v : Word) : item.legal v = true ↔ LegalNumber v.toNat item := by
  have bound : v.toNat < 65536 := v.isLt
  rw [Item.legal_iff]
  cases item <;>
    simp only [Item.zeroFields, Item.fieldsInRange, LegalNumber, field_eq, List.forall_mem_cons, List.not_mem_nil,
      false_imp_iff, implies_true, and_true, true_and, decide_eq_true_eq, bne_iff_ne, ne_eq, BitVec.toNat_eq,
      BitVec.toNat_ofNat] <;>
    omega

end Legal

/-! ## What a write of the set decides -/

section Decision

variable {s : State} {h : HostId} {item : Item} {v : Word}

theorem itemAt_eq_none (unmapped : ∀ item, ¬ Names s h item) : itemAt (s.port h).cfgIndex = none :=
  Option.eq_none_iff_forall_ne_some.2 fun item found => unmapped item (itemIndex_of_itemAt found)

theorem State.cfgDataWrite_unmapped (unmapped : ∀ item, ¬ Names s h item) :
    s.cfgDataWrite h v = (s, .fault .badAddress) := by
  rw [State.cfgDataWrite, itemAt_eq_none unmapped]

theorem State.cfgCdataWrite_unmapped (unmapped : ∀ item, ¬ Names s h item) :
    s.cfgCdataWrite h v = (s, .fault .badAddress) := by
  rw [State.cfgCdataWrite, itemAt_eq_none unmapped]

theorem State.cfgDataWrite_illegal (names : Names s h item) (illegal : ¬ item.legal v = true) :
    s.cfgDataWrite h v = (s, .fault .badValue) := by
  simp only [State.cfgDataWrite, itemAt_of_names names, if_neg illegal]

theorem State.cfgCdataWrite_illegal (names : Names s h item) (illegal : ¬ item.legal v = true) :
    s.cfgCdataWrite h v = (s, .fault .badValue) := by
  simp only [State.cfgCdataWrite, itemAt_of_names names, if_pos illegal]

theorem State.cfgCdataWrite_stale (names : Names s h item) (legal : item.legal v = true)
    (stale : (s.port h).cfgExpect ≠ s.cfg.generation) : s.cfgCdataWrite h v = (s, .fault .staleGeneration) := by
  simp only [State.cfgCdataWrite, itemAt_of_names names, if_neg (not_not.2 legal), if_pos stale]

/-- With the generation that it expects, a conditional write is decided as an unconditional one (R133). -/
theorem State.cfgCdataWrite_current (current : (s.port h).cfgExpect = s.cfg.generation) :
    s.cfgCdataWrite h v = s.cfgDataWrite h v := by
  simp only [State.cfgCdataWrite, State.cfgDataWrite, current, ne_eq, not_true_eq_false, if_false, ite_not]

/-- What a write of the set comes to, for the writer `h` and the value `v` (R132 to R135). -/
inductive State.SetWrite (s : State) (h : HostId) (v : Word) : State × Answer → Prop
  /-- It is refused, and nothing is stored (R134). -/
  | refused (code : FaultCode) (listed : code = .badAddress ∨ code = .badValue ∨ code = .staleGeneration) :
      SetWrite s h v (s, .fault code)
  /-- It is accepted for the item that CFG_INDEX names (R135). -/
  | accepted (item : Item) (names : Names s h item) (legal : item.legal v = true) :
      SetWrite s h v (s.acceptWrite h item v, .accept)

theorem State.cfgDataWrite_setWrite (s : State) (h : HostId) (v : Word) : s.SetWrite h v (s.cfgDataWrite h v) := by
  by_cases named : ∃ item, Names s h item
  · obtain ⟨item, names⟩ := named
    by_cases legal : item.legal v = true
    · exact State.cfgDataWrite_accepted names legal ▸ .accepted item names legal
    · exact State.cfgDataWrite_illegal names legal ▸ .refused _ (by decide)
  · exact State.cfgDataWrite_unmapped (not_exists.1 named) ▸ .refused _ (by decide)

/-- A conditional write is refused where the generation is not the one expected, if not for its index or value
(R133). -/
theorem State.cfgCdataWrite_notCurrent (stale : (s.port h).cfgExpect ≠ s.cfg.generation) :
    ∃ code, (code = .badAddress ∨ code = .badValue ∨ code = .staleGeneration) ∧
      s.cfgCdataWrite h v = (s, .fault code) := by
  by_cases named : ∃ item, Names s h item
  · obtain ⟨item, names⟩ := named
    by_cases legal : item.legal v = true
    · exact ⟨_, .inr (.inr rfl), State.cfgCdataWrite_stale names legal stale⟩
    · exact ⟨_, .inr (.inl rfl), State.cfgCdataWrite_illegal names legal⟩
  · exact ⟨_, .inl rfl, State.cfgCdataWrite_unmapped (not_exists.1 named)⟩

theorem State.cfgCdataWrite_setWrite (s : State) (h : HostId) (v : Word) : s.SetWrite h v (s.cfgCdataWrite h v) := by
  by_cases current : (s.port h).cfgExpect = s.cfg.generation
  · exact State.cfgCdataWrite_current current ▸ s.cfgDataWrite_setWrite h v
  · obtain ⟨code, listed, refused⟩ := State.cfgCdataWrite_notCurrent (v := v) current
    exact refused ▸ .refused code listed

/-- A conditional write that is accepted met its expected generation (R133). -/
theorem State.current_of_cfgCdataWrite (accepted : (s.cfgCdataWrite h v).2 = .accept) :
    (s.port h).cfgExpect = s.cfg.generation := by
  by_contra stale
  obtain ⟨code, -, refused⟩ := State.cfgCdataWrite_notCurrent (v := v) stale
  rw [refused] at accepted
  cases accepted

end Decision

/-! ## What an accepted write changes -/

section Accepted

variable {s : State} {h : HostId} {item : Item} {v : Word}

/-- The blocks informed of a write are the pool, the lines and the sources (R141 to R143). -/
theorem State.inform_frame (s : State) (old : ConfigSet) (item : Item) :
    s.inform old item =
      { s with
        pool := (s.inform old item).pool
        lines := (s.inform old item).lines
        sources := (s.inform old item).sources } := by
  cases item with
  | mode slot =>
    unfold State.inform
    dsimp only
    split <;> rfl
  | _ => rfl

/-- An accepted write changes the set and the CONFIG_CHANGED flags, and of the blocks at most the pool, the lines and
the sources (R135, R139, R141). -/
theorem State.acceptWrite_frame (s : State) (h : HostId) (item : Item) (v : Word) :
    s.acceptWrite h item v =
      { s.oweChanged h with
        cfg := { s.cfg.store v item with generation := s.cfg.generation + 1#16 }
        pool := (s.acceptWrite h item v).pool
        lines := (s.acceptWrite h item v).lines
        sources := (s.acceptWrite h item v).sources } :=
  State.inform_frame _ _ _

/-- A write owes CONFIG_CHANGED to the other UP subscribers, as CFG_SUBSCRIBERS stood before it (R139). -/
theorem State.acceptWrite_changed (s : State) (h : HostId) (item : Item) (v : Word) (g : HostId) :
    (s.acceptWrite h item v).port g =
      { s.port g with
        changed :=
          if g ≠ h ∧ (s.port g).up = true ∧ s.cfg.subscribers.getLsbD g.val = true then some h
          else (s.port g).changed } := by
  have ports : (s.acceptWrite h item v).port g = (s.oweChanged h).port g :=
    (congrArg (fun u => u.port g) (s.acceptWrite_frame h item v) :)
  rw [ports, State.oweChanged, State.port_mapPorts]
  by_cases owed : g ≠ h ∧ (s.port g).up = true ∧ s.cfg.subscribers.getLsbD g.val = true
  · rw [if_pos owed]
    exact if_pos owed
  · rw [if_neg owed]
    exact if_neg owed

/-- A write leaves the other items as they were (R135). -/
theorem State.acceptWrite_read (s : State) (h : HostId) (item : Item) (v : Word) (other : Item) :
    (s.acceptWrite h item v).cfg.read other = if other = item then v else s.cfg.read other := by
  rw [State.acceptWrite_cfg, ConfigSet.read_generation, ConfigSet.read_store]

/-- Only a mode word reaches the pool (R142). -/
theorem State.acceptWrite_pool (other : ∀ slot, item ≠ .mode slot) : (s.acceptWrite h item v).pool = s.pool := by
  cases item with
  | mode slot => exact absurd rfl (other slot)
  | _ => rfl

/-- Only a profile word reaches the lines (R142). -/
theorem State.acceptWrite_lines_kept
    (other : ∀ slot, item ≠ .mode slot ∧ item ≠ .timingA slot ∧ item ≠ .timingB slot) :
    (s.acceptWrite h item v).lines = s.lines := by
  cases item with
  | mode slot => exact absurd rfl (other slot).1
  | timingA slot => exact absurd rfl (other slot).2.1
  | timingB slot => exact absurd rfl (other slot).2.2
  | _ => rfl

/-- Only a route word A reaches the sources (R143). -/
theorem State.acceptWrite_sources (other : ∀ n, item ≠ .routeA n) : (s.acceptWrite h item v).sources = s.sources :=
  (State.inform_desk _ s.cfg item).2.2.2 other

/-- The generation after an accepted write is not the one before it (R136). -/
theorem State.acceptWrite_generation_ne (s : State) (h : HostId) (item : Item) (v : Word) :
    (s.acceptWrite h item v).cfg.generation ≠ s.cfg.generation := by
  rw [State.acceptWrite_cfg]
  change s.cfg.generation + 1#16 ≠ s.cfg.generation
  bv_omega

end Accepted

/-! ## The commands that reach the set -/

section Commands

variable {s t : State} {c : Instr} {h : HostId}

/-- A WORD write at the offset of a register with write access is decided by that register's owner (R170). -/
theorem State.take_writeReg (reg : ControlReg) {v : Word} (writable : reg.writable = true) :
    (s.take h fun s => s.writeReg h v reg) = s.request h (controlRequestWord 1#1 .word reg.offset) v := by
  rw [State.request, decodeRequest_controlWrite, controlWrite_offset v writable]
  rfl

/-- A command that a host presents is run as its request word is (R167 to R170). -/
theorem exec_of_request {word : BitVec 24} {data : Word} (spelled : c.request = some (h, word, data)) :
    exec c s = .next (s.request h word data) := by
  cases c with
  | slotRead g slot offset width =>
    cases spelled
    rw [State.request, decodeRequest_slotRead]
    rfl
  | slotWrite g slot offset width data =>
    cases spelled
    rw [State.request, decodeRequest_slotWrite]
    rfl
  | unmappedRequest g word data => cases spelled; rfl
  | portStatus g width offset =>
    cases spelled
    rw [State.request, decodeRequest_controlRead]
    rfl
  | noticePop g value => cases spelled; exact congrArg Host.Outcome.next (State.take_writeReg .noticePop rfl)
  | threshold g value => cases spelled; exact congrArg Host.Outcome.next (State.take_writeReg .threshold rfl)
  | cancelReads g value => cases spelled; exact congrArg Host.Outcome.next (State.take_writeReg .cancelReads rfl)
  | claim g n =>
    cases spelled
    rw [State.request, decodeRequest_controlRead, controlRead_offset rfl]
    rfl
  | release g value => cases spelled; exact congrArg Host.Outcome.next (State.take_writeReg .release rfl)
  | rearm g value => cases spelled; exact congrArg Host.Outcome.next (State.take_writeReg .rearm rfl)
  | cfgDataWrite g value => cases spelled; exact congrArg Host.Outcome.next (State.take_writeReg .cfgData rfl)
  | cfgCdataWrite g value => cases spelled; exact congrArg Host.Outcome.next (State.take_writeReg .cfgCdata rfl)
  | registerWrite g width offset value =>
    cases spelled
    rw [State.request, decodeRequest_controlWrite]
    rfl
  | _ => cases spelled

theorem State.cfg_of_governor (same : t.governor = s.governor) : t.cfg = s.cfg := congrArg Governor.cfg same

theorem State.tickEvent_cfg (s : State) : s.tickEvent.cfg = s.cfg := by
  unfold State.tickEvent
  split <;> rfl

theorem State.selection_cfg (s : State) : s.selection.cfg = s.cfg := by
  rcases s.selection_cases with e | ⟨h, q, r, -, -, -, e⟩ <;> rw [e]
  exact (State.cfg_of_governor (State.takeRecord_governor _ h r)).trans rfl

/-- Of the commands that no host presents, gateway reset alone changes the set (R147). -/
theorem exec_event_cfg (event : c.request = none) (run : exec c s = .next t) :
    t.cfg = s.cfg ∨ c = .gatewayReset ∧ t.cfg = ConfigSet.reset := by
  cases c with
  | attentionLineActive n => cases run; exact .inl (State.cfg_of_governor (s.attentionLine_governor n true))
  | attentionLineInactive n => cases run; exact .inl (State.cfg_of_governor (s.attentionLine_governor n false))
  | tickEvent => cases run; exact .inl s.tickEvent_cfg
  | collectionTimerExpiry g slot offset width => cases run; exact .inl rfl
  | lifetimeExpiry e => cases run; exact .inl (State.cfg_of_governor (s.lifetimeExpiry_governor e))
  | claimTimeout n => cases run; exact .inl rfl
  | holdTimeout n => cases run; exact .inl rfl
  | selection => cases run; exact .inl s.selection_cfg
  | setupEnd pdcl => cases run; exact .inl (State.cfg_of_governor (s.setupEnd_governor pdcl))
  | strobePeriodEnd prdy lanes ppar =>
    cases run; exact .inl (State.cfg_of_governor (s.strobePeriodEnd_governor prdy lanes ppar))
  | ready lanes ppar => cases run; exact .inl (State.cfg_of_governor (s.ready_governor lanes ppar))
  | decline => cases run; exact .inl (State.cfg_of_governor s.decline_governor)
  | readyLimitExpiry => cases run; exact .inl (State.cfg_of_governor s.readyLimitExpiry_governor)
  | recoveryEnd => cases run; exact .inl (State.cfg_of_governor s.recoveryEnd_governor)
  | completion => cases run; exact .inl (State.cfg_of_governor s.completion_governor)
  | placementPass g => cases run; exact .inl (State.cfg_of_governor (s.placementPass_governor g))
  | portReset g => cases run; exact .inl (State.cfg_of_governor (s.assertPrst_governor g))
  | returnToUp g => cases run; exact .inl (State.cfg_of_governor (s.deassertPrst_governor g))
  | gatewayReset => cases run; exact .inr ⟨rfl, rfl⟩
  | gatewayResetEnd => cases run; exact .inl (State.cfg_of_governor s.gatewayResetEnd_governor)
  | _ => cases event

/-- A write of a register changes the set only as an accepted write of CFG_DATA or CFG_CDATA (R135). -/
theorem State.writeReg_cfg (s : State) (h : HostId) (v : Word) (reg : ControlReg) :
    (s.writeReg h v reg).1.cfg = s.cfg ∨
      (reg = .cfgData ∨ reg = .cfgCdata) ∧ s.SetWrite h v (s.writeReg h v reg) := by
  cases reg with
  | cfgData => exact .inr ⟨.inl rfl, s.cfgDataWrite_setWrite h v⟩
  | cfgCdata => exact .inr ⟨.inr rfl, s.cfgCdataWrite_setWrite h v⟩
  | noticePop => exact .inl (State.cfg_of_governor (s.pop_governor h))
  | threshold => exact .inl (State.cfg_of_governor (s.writeThreshold_governor h v))
  | release => exact .inl (State.cfg_of_governor (s.release_governor h v))
  | rearm => exact .inl (State.cfg_of_governor (s.rearm_governor h v))
  | _ => exact .inl rfl

/-- A decoded request changes the set only as a write of CFG_DATA or CFG_CDATA (R130, R135). -/
theorem State.access_cfg (s : State) (h : HostId) (a : Access) :
    (s.access h a).1.cfg = s.cfg ∨
      ∃ v, (a = .writeReg .cfgData v ∨ a = .writeReg .cfgCdata v) ∧ s.SetWrite h v (s.access h a) := by
  cases a with
  | slotRead slot offset width => exact .inl (State.cfg_of_governor (s.slotRead_governor h slot offset width))
  | slotWrite slot offset width data =>
    exact .inl (State.cfg_of_governor (s.slotWrite_governor h slot offset width data))
  | readReg reg => exact .inl (State.cfg_of_governor (s.readReg_governor h reg))
  | writeReg reg v =>
    rcases s.writeReg_cfg h v reg with same | ⟨rfl | rfl, write⟩
    · exact .inl same
    · exact .inr ⟨v, .inl rfl, write⟩
    · exact .inr ⟨v, .inr rfl, write⟩
  | badAddress => exact .inl rfl

/-- A write of the set, presented by its row, is taken and decided as one of the two (R132, R133). -/
theorem exec_setWrite {v : Word} (write : c = .cfgDataWrite h v ∨ c = .cfgCdataWrite h v) (run : exec c s = .next t) :
    (t.port h).answer = none ∨ ∃ u a, s.SetWrite h v (u, a) ∧ t = answering u h a := by
  obtain ⟨f, decided, rfl⟩ : ∃ f, s.SetWrite h v (f s) ∧ s.take h f = t := by
    rcases write with rfl | rfl <;> cases run
    · exact ⟨_, s.cfgDataWrite_setWrite h v, rfl⟩
    · exact ⟨_, s.cfgCdataWrite_setWrite h v, rfl⟩
  cases up : (s.port h).up with
  | true => exact .inr ⟨_, _, decided, State.take_answering up rfl⟩
  | false => exact .inl (by simp [State.answer_take, up])

@[simp] theorem answer_answering (s : State) (h : HostId) (a : Answer) :
    ((answering s h a).port h).answer = some a := by
  simp [answering]

/-- The expected generation of a port stays when an answer goes on a link. -/
@[simp] theorem cfgExpect_answering (s : State) (h g : HostId) (a : Answer) :
    ((answering s h a).port g).cfgExpect = (s.port g).cfgExpect := by
  by_cases same : g = h
  · simp [answering, same]
  · rw [answering, State.port_modPort_ne _ _ same]

/-- The answer ACCEPT on the writer's link tells of an accepted write (R135). -/
theorem acceptWrite_of_accept {v : Word} (write : c = .cfgDataWrite h v ∨ c = .cfgCdataWrite h v)
    (run : exec c s = .next t) (accept : (t.port h).answer = some .accept) :
    ∃ item, t = answering (s.acceptWrite h item v) h .accept := by
  rcases exec_setWrite write run with silent | ⟨u, a, decided, rfl⟩
  · cases silent.symm.trans accept
  · rw [answer_answering] at accept
    cases decided with
    | refused => cases accept
    | accepted item => exact ⟨item, rfl⟩

/-- The answer ACCEPT to a conditional write tells that the writer expected the generation (R133). -/
theorem expected_of_accept {v : Word} (run : exec (.cfgCdataWrite h v) s = .next t)
    (accept : (t.port h).answer = some .accept) : (s.port h).cfgExpect = s.cfg.generation := by
  cases run
  rw [State.answer_take] at accept
  split at accept
  · exact State.current_of_cfgCdataWrite (Option.some.inj accept)
  · cases accept

end Commands

end Sys2Proof.Machine

namespace Sys2Proof.Proofs

open Sys2Proof.Machine Sys2Proof.Statements

/-- Settles O38: an event but gateway reset leaves the set, and a request reaches it only as a write of the set. -/
theorem onlyAcceptedWritesChangeTheSet : Obligations.OnlyAcceptedWritesChangeTheSet := by
  intro c s t run
  cases spelled : c.request with
  | none => exact (exec_event_cfg spelled run).imp_right .inl
  | some presented =>
    obtain ⟨h, word, data⟩ := presented
    rw [exec_of_request spelled] at run
    cases run
    cases up : (s.port h).up with
    | false =>
      have refused : s.request h word data = s.modPort h fun p => { p with answer := none } := State.take_down up
      exact .inl (congrArg State.cfg refused :)
    | true =>
      have taken : s.request h word data =
          answering (s.access h (decodeRequest word data)).1 h (s.access h (decodeRequest word data)).2 :=
        State.take_answering up rfl
      rw [taken]
      rcases s.access_cfg h (decodeRequest word data) with same | ⟨v, target, write⟩
      · exact .inl same
      obtain rfl : v = data := target.elim value_of_decodeRequest value_of_decodeRequest
      generalize s.access h (decodeRequest word v) = decided at write
      cases write with
      | refused => exact .inl rfl
      | accepted item names legal =>
        exact .inr (.inr ⟨h, word, v, item, rfl, target, up, names, legal, answer_answering _ h _,
          s.acceptWrite_cfg h item v⟩)

/-- Settles O32: each item stands at its index, and an index that names an item is that item's. -/
theorem indexNamesTheItem : Obligations.IndexNamesTheItem := by
  refine fun index item => ⟨itemIndex_of_itemAt, fun here => ?_⟩
  have index_eq : index = BitVec.ofNat 16 (itemIndex item) := by rw [← here, BitVec.ofNat_toNat, BitVec.setWidth_eq]
  rw [index_eq, itemAt_index]

/-- Settles O33: the legal values field by field; another value fails the test that both writes make. -/
theorem illegalValuesAreRefused : Obligations.IllegalValuesAreRefused := by
  refine ⟨Item.legal_iff_legalNumber, fun h v s item up names illegal => ?_⟩
  have illegal := mt (item.legal_iff_legalNumber v).1 illegal
  exact ⟨congrArg Host.Outcome.next (State.take_answering up (State.cfgDataWrite_illegal names illegal)),
    congrArg Host.Outcome.next (State.take_answering up (State.cfgCdataWrite_illegal names illegal))⟩

/-- Settles O34: refusals test by test, and an accepted write by what it leaves of each part. -/
theorem configurationWrites : Obligations.ConfigurationWrites := by
  refine fun h v s up => ⟨fun unmapped => ⟨?_, ?_⟩, fun item names legal => ⟨fun stale => ?_, ?_⟩⟩
  · exact congrArg Host.Outcome.next (State.take_answering up (State.cfgDataWrite_unmapped unmapped))
  · exact congrArg Host.Outcome.next (State.take_answering up (State.cfgCdataWrite_unmapped unmapped))
  · exact congrArg Host.Outcome.next (State.take_answering up (State.cfgCdataWrite_stale names legal stale))
  have accepted : s.cfgDataWrite h v = (s.acceptWrite h item v, .accept) := State.cfgDataWrite_accepted names legal
  have frame := s.acceptWrite_frame h item v
  have read := s.acceptWrite_read h item v
  refine ⟨answering (s.acceptWrite h item v) h .accept, ?_, fun current => ?_, ?_, fun other ne => ?_, ?_, fun g => ?_,
    (congrArg State.arbiter frame :), (congrArg State.sequencer frame :), (congrArg State.bus frame :),
    (congrArg State.timebase frame :), (congrArg State.grst frame :), (congrArg State.patn frame :),
    (congrArg State.samples frame :), (congrArg State.pending frame :), State.acceptWrite_pool,
    State.acceptWrite_lines_kept, State.acceptWrite_sources⟩
  · exact congrArg Host.Outcome.next (State.take_answering up accepted)
  · exact congrArg Host.Outcome.next
      (State.take_answering up ((State.cfgCdataWrite_current current).trans accepted))
  · exact (read item).trans (if_pos rfl)
  · exact (read other).trans (if_neg ne)
  · exact congrArg ConfigSet.generation (s.acceptWrite_cfg h item v)
  · by_cases same : g = h
    · subst same
      simp [answering, State.acceptWrite_changed]
    · rw [answering, State.port_modPort_ne _ _ same, State.acceptWrite_changed, if_neg same]

/-- Settles O36: of what a write of the set can come to, only a refusal puts a fault on the link. -/
theorem refusedWriteChangesNothing : Obligations.RefusedWriteChangesNothing := by
  intro c h v s t code write run fault
  rcases exec_setWrite write run with silent | ⟨u, a, decided, rfl⟩
  · cases silent.symm.trans fault
  · rw [answer_answering] at fault
    cases decided with
    | refused code' listed =>
      cases fault
      exact ⟨listed, rfl⟩
    | accepted => cases fault

/-- Settles O37: the first write raises the generation that both expected, so the second one's is stale. -/
theorem conditionalWritesExclude : Obligations.ConditionalWritesExclude := by
  intro s t u h g v w expect first accept second
  have current := expected_of_accept first accept
  obtain ⟨item, rfl⟩ := acceptWrite_of_accept (.inr rfl) first accept
  have stale : ((answering (s.acceptWrite h item v) h .accept).port g).cfgExpect ≠
      (s.acceptWrite h item v).cfg.generation := by
    rw [cfgExpect_answering, State.acceptWrite_changed, ← expect, current]
    exact (s.acceptWrite_generation_ne h item v).symm
  refine ⟨fun both => stale (expected_of_accept second both), fun item up names legal => ?_⟩
  cases second
  exact State.take_answering up (State.cfgCdataWrite_stale names legal stale)

end Sys2Proof.Proofs
end

section
/-!
PROOFS. Ticks: the due expiries and the lowering of the timers in the terms of the statements, and what a run of ticks
leaves of each timer.
-/

namespace Sys2Proof.Machine

open Sys2Proof.Statements

/-! ## Due expiries and ticks in the statements' terms -/

/-- A claim timer at 0 takes the claim timeout (R100). -/
theorem Source.expireDue_raised {src : Source} {round : Nat} (due : src.state = .raised round 0) (route : Route)
    (up : HostId → Bool) :
    src.expireDue route up =
      if round + 1 < route.repeatLimit then
        owing { src with state := .raised (round + 1) route.claimTimeout } route up (.repeated (round + 1))
      else owing { src with state := .stuck } route up .sourceStuck := by
  unfold Source.expireDue
  rw [Source.claimTimeout_due due, Source.holdTimeout_notDue]
  split <;> exact nofun

/-- A hold timer at 0 releases the source, with FORCED_RELEASE owed to its holder (R103). -/
theorem Source.expireDue_claimed {src : Source} {holder : HostId} (due : src.state = .claimed holder (some 0))
    (route : Route) (up : HostId → Bool) :
    src.expireDue route up = released { src with forced := src.forced.set holder (some .holdExpired) } route up := by
  unfold Source.expireDue
  rw [Source.claimTimeout_notDue (by simp [due]), Source.holdTimeout_due due]

/-- A source's due expiry, by its state (R100, R103, R154). -/
theorem Source.expireDue_eq (src : Source) (route : Route) (up : HostId → Bool) :
    src.expireDue route up =
      match src.state with
      | .raised round 0 =>
        if round + 1 < route.repeatLimit then
          owing { src with state := .raised (round + 1) route.claimTimeout } route up (.repeated (round + 1))
        else owing { src with state := .stuck } route up .sourceStuck
      | .claimed holder (some 0) =>
        released { src with forced := src.forced.set holder (some .holdExpired) } route up
      | _ => src := by
  split
  · next due => exact Source.expireDue_raised due route up
  · next due => exact Source.expireDue_claimed due route up
  · next notRaised notClaimed =>
    unfold Source.expireDue
    rw [Source.claimTimeout_notDue notRaised, Source.holdTimeout_notDue notClaimed]

/-- The due expiries of the lines (R69, R78). -/
theorem ReadAhead.expireDue_eq (l : ReadAhead) :
    l.expireDue =
      { entries :=
          Vector.ofFn fun e =>
            match l.entries[e] with
            | .valid _ _ _ 0 => .invalid
            | entry => entry
        recency :=
          l.recency.filter fun e =>
            match l.entries[e] with
            | .valid _ _ _ 0 => false
            | _ => true } := by
  unfold ReadAhead.expireDue
  congr 1
  · congr 1
    funext e
    rcases l.entries[e] with _ | _ | ⟨_, _, _, _ | _⟩ <;> rfl
  · congr 1
    funext e
    rcases l.entries[e] with _ | _ | ⟨_, _, _, _ | _⟩ <;> rfl

/-- The due expiries are the statements' `expired` (R152, R155). -/
theorem State.expireDue_eq_expired (s : State) : s.expireDue = expired s := by
  simp only [State.expireDue, ReadAhead.expireDue_eq, Source.expireDue_eq]
  rfl

/-- A tick is the statements' `lowered` (R149, R150). -/
theorem State.tick_eq_lowered (s : State) : s.tick = lowered s := rfl

/-- With gateway reset not asserted, a tick event takes what is due, then lowers every running timer (R150, R152). -/
theorem State.tickEvent_off {s : State} (off : s.grst = false) : s.tickEvent = s.expireDue.tick := by
  simp [State.tickEvent, off]

theorem State.tickEvent_on {s : State} (on : s.grst = true) : s.tickEvent = s := if_pos on

/-! ## A run of ticks -/

/-- The state after `k` tick events. -/
def State.ticks (s : State) (k : Nat) : State := State.tickEvent^[k] s

/-- What `k` ticks leave of a record: a collection timer lowered by `k`, or the record ORPHANED by then (R16, R150). -/
def Record.ticks (k : Nat) (r : Record) : Record :=
  match r.state with
  | .done result timer => { r with state := if k ≤ timer then .done result (timer - k) else .orphaned }
  | _ => r

/-- What `k` ticks leave of a line entry: a lifetime timer lowered by `k`, or the entry INVALID by then (R78, R150). -/
def LineEntry.ticks (k : Nat) : LineEntry → LineEntry
  | .valid slot base data timer => if k ≤ timer then .valid slot base data (timer - k) else .invalid
  | entry => entry

section Ticks

variable {s : State}

theorem State.ticks_zero (s : State) : s.ticks 0 = s := rfl

theorem State.ticks_succ (s : State) (k : Nat) : s.ticks (k + 1) = (s.ticks k).tickEvent :=
  Function.iterate_succ_apply' State.tickEvent k s

/-- The commands that wait have no part in a tick. -/
theorem State.tickEvent_pending (s : State) (cs : List Instr) :
    State.tickEvent { s with pending := cs } = { s.tickEvent with pending := cs } := by
  unfold State.tickEvent
  split <;> rfl

/-- A run of `k` TICK_EVENT commands is `k` ticks. -/
theorem runsTo_ticks (k : Nat) (s : State) :
    RunsTo (List.replicate k .tickEvent) s (State.ticks { s with pending := [] } k) := by
  induction k generalizing s with
  | zero => rfl
  | succ k ih =>
    have rest := ih s.tickEvent
    rw [← State.tickEvent_pending] at rest
    exact runsTo_cons (u := s.tickEvent) rest (congrArg Host.Outcome.next (s.tickEvent_pending _))

/-- Ticks leave the level of GRST and the configuration set (R149). -/
theorem State.ticks_grst (s : State) (k : Nat) : (s.ticks k).grst = s.grst := by
  induction k with
  | zero => rfl
  | succ k ih =>
    rw [State.ticks_succ, ← ih]
    unfold State.tickEvent
    split <;> rfl

theorem State.ticks_cfg (s : State) (k : Nat) : (s.ticks k).cfg = s.cfg := by
  induction k with
  | zero => rfl
  | succ k ih => rw [State.ticks_succ, State.tickEvent_cfg, ih]

/-- One more tick, with gateway reset not asserted. -/
theorem State.ticks_succ_off (off : s.grst = false) (k : Nat) : s.ticks (k + 1) = (s.ticks k).expireDue.tick :=
  (s.ticks_succ k).trans (State.tickEvent_off ((s.ticks_grst k).trans off))

/-- One tick more on a record: at 0 its timer expires, above 0 it is lowered (R16, R152). -/
theorem Record.ticks_succ (k : Nat) (r : Record) : r.ticks (k + 1) = (r.ticks k).expireDue.tick := by
  unfold Record.ticks
  split
  · next result timer done =>
    rcases lt_trichotomy k timer with running | due | past
    · have left : timer - k = timer - (k + 1) + 1 := by omega
      rw [if_pos (Nat.succ_le_of_lt running), if_pos (Nat.le_of_lt running), left]
      rfl
    · subst due
      rw [if_neg (by omega), if_pos le_rfl, Nat.sub_self]
      rfl
    · rw [if_neg (by omega), if_neg (by omega)]
      rfl
  · next notDone =>
    have stays : r.expireDue = r := by
      rcases r.expireDue_cases with ⟨result, due, -⟩ | stays
      · exact absurd due (notDone _ _)
      · exact stays
    rw [stays]
    unfold Record.tick
    split
    · exact absurd ‹_› (notDone _ _)
    · rfl

/-- One tick more on a line entry: at 0 its timer expires, above 0 it is lowered (R78, R152). -/
theorem LineEntry.ticks_succ (k : Nat) (entry : LineEntry) :
    entry.ticks (k + 1) = (entry.ticks k).expireDue.tick := by
  cases entry with
  | valid slot base data timer =>
    simp only [LineEntry.ticks]
    rcases lt_trichotomy k timer with running | due | past
    · have left : timer - k = timer - (k + 1) + 1 := by omega
      rw [if_pos (Nat.succ_le_of_lt running), if_pos (Nat.le_of_lt running), left]
      rfl
    · subst due
      rw [if_neg (by omega), if_pos le_rfl, Nat.sub_self]
      rfl
    · rw [if_neg (by omega), if_neg (by omega)]
      rfl
  | _ => rfl

theorem State.ticks_pool (off : s.grst = false) (k : Nat) : (s.ticks k).pool = s.pool.map (Record.ticks k) := by
  induction k with
  | zero =>
    have same (r : Record) : r.ticks 0 = r := by
      unfold Record.ticks
      split
      · next done => simp [← done]
      · rfl
    simp [State.ticks_zero, funext same]
  | succ k ih =>
    rw [State.ticks_succ_off off, funext (Record.ticks_succ k)]
    simp only [State.tick, State.expireDue, ih, List.map_map]
    rfl

theorem State.ticks_entry (off : s.grst = false) (k : Nat) (e : EntryId) :
    (s.ticks k).entry e = (s.entry e).ticks k := by
  induction k with
  | zero =>
    rw [State.ticks_zero]
    cases s.entry e <;> rfl
  | succ k ih =>
    rw [State.ticks_succ_off off, LineEntry.ticks_succ, ← ih, State.entry_tick, State.entry_expireDue]
    rfl

/-- One tick more on a source. -/
theorem State.ticks_succ_source (off : s.grst = false) (k : Nat) (n : SourceId) :
    (s.ticks (k + 1)).source n = (((s.ticks k).source n).expireDue (s.cfg.route n) (s.ticks k).upSet).tick := by
  rw [State.ticks_succ_off off, State.source_tick, State.source_expireDue, State.ticks_cfg]

/-- A claim timer is lowered by one with each tick until it stands at 0 (R150). -/
theorem State.ticks_source_raised (off : s.grst = false) {n : SourceId} {round timer : Nat}
    (raised : (s.source n).state = .raised round timer) {k : Nat} (running : k ≤ timer) :
    (s.ticks k).source n = { s.source n with state := .raised round (timer - k) } := by
  induction k with
  | zero => simp [State.ticks_zero, ← raised]
  | succ k ih =>
    have left : timer - k = timer - (k + 1) + 1 := by omega
    rw [State.ticks_succ_source off, ih (by omega), left]
    rfl

/-- A hold timer is lowered by one with each tick until it stands at 0 (R150). -/
theorem State.ticks_source_claimed (off : s.grst = false) {n : SourceId} {holder : HostId} {timer : Nat}
    (claimed : (s.source n).state = .claimed holder (some timer)) {k : Nat} (running : k ≤ timer) :
    (s.ticks k).source n = { s.source n with state := .claimed holder (some (timer - k)) } := by
  induction k with
  | zero => simp [State.ticks_zero, ← claimed]
  | succ k ih =>
    have left : timer - k = timer - (k + 1) + 1 := by omega
    rw [State.ticks_succ_source off, ih (by omega), left]
    rfl

/-- The tick after a claim timer has reached 0 takes the claim timeout, and lowers the timer that it starts (R100,
R152). -/
theorem State.ticks_source_raised_over (off : s.grst = false) {n : SourceId} {round timer : Nat}
    (raised : (s.source n).state = .raised round timer) :
    ((s.ticks (timer + 1)).source n).state =
      if round + 1 < (s.cfg.route n).repeatLimit then .raised (round + 1) ((s.cfg.route n).claimTimeout - 1)
      else .stuck := by
  rw [State.ticks_succ_source off, State.ticks_source_raised off raised le_rfl, Nat.sub_self,
    Source.expireDue_raised rfl]
  split <;> rfl

/-- The tick after a hold timer has reached 0 releases the source with FORCED_RELEASE owed to its holder, and lowers the
claim timer that the release may start (R97, R103, R152). -/
theorem State.ticks_source_claimed_over (off : s.grst = false) {n : SourceId} {holder : HostId} {timer : Nat}
    (claimed : (s.source n).state = .claimed holder (some timer)) :
    ((s.ticks (timer + 1)).source n).forced[holder] = some .holdExpired ∧
      ((s.ticks (timer + 1)).source n).state =
        if (s.source n).line = true ∧ (s.cfg.route n).subscribers ≠ 0#4 then
          .raised 0 ((s.cfg.route n).claimTimeout - 1)
        else .idle := by
  rw [State.ticks_succ_source off, State.ticks_source_claimed off claimed le_rfl, Nat.sub_self,
    Source.expireDue_claimed rfl]
  unfold released
  split
  · exact ⟨Vector.getElem_set_self _, rfl⟩
  · exact ⟨Vector.getElem_set_self _, rfl⟩

end Ticks

end Sys2Proof.Machine

namespace Sys2Proof.Proofs

open Sys2Proof.Machine Sys2Proof.Statements

/-- Settles O48, by the level of GRST. -/
theorem tickLowersEveryTimer : Obligations.TickLowersEveryTimer := by
  refine fun s => ⟨fun on => congrArg Host.Outcome.next (State.tickEvent_on on),
    fun off => congrArg Host.Outcome.next ?_⟩
  rw [State.tickEvent_off off, State.expireDue_eq_expired, State.tick_eq_lowered]

/-- Settles O49: the state after `k` ticks, timer by timer. -/
theorem timersCountTicks : Obligations.TimersCountTicks := by
  intro k s off
  let u : State := { s with pending := [] }
  have off : u.grst = false := off
  refine ⟨u.ticks k, runsTo_ticks k s, State.ticks_pool off k, fun e slot base data timer valid => ?_,
    fun n round timer raised => ⟨fun running => ?_, ?_⟩, fun n holder timer claimed => ⟨fun running => ?_, ?_⟩⟩
  · have valid : u.entry e = .valid slot base data timer := valid
    rw [State.ticks_entry off, valid]
    rfl
  · rw [State.ticks_source_raised (s := u) off raised running]
  · rintro rfl
    exact State.ticks_source_raised_over (s := u) off raised
  · rw [State.ticks_source_claimed (s := u) off claimed running]
  · rintro rfl
    exact State.ticks_source_claimed_over (s := u) off claimed

end Sys2Proof.Proofs
end

section
/-!
PROOFS. One bus clock, taken on an empty queue: what the beat leaves unchanged, the divider with the timers, and the
ends of the phases by the clock.
-/

namespace Sys2Proof.Machine

open Sys2Proof.Statements

/-! ## What a beat leaves unchanged -/

/-- The state without what a beat and its completion change: pool, sequencer, P-bus, lines and the samplings. -/
def State.offBeat (s : State) : State :=
  { s with pool := [], sequencer := none, bus := BusPins.reset false, lines := ReadAhead.reset, samples := 0 }

section Frame

variable (s : State)

theorem State.setupEnd_offBeat (pdcl : Bool) : (s.setupEnd pdcl).offBeat = s.offBeat := by
  unfold State.setupEnd
  split
  · split
    · split <;> rfl
    · rfl
  · rfl

theorem State.takeTransfer_offBeat (op : Operation) (lanes : Word) (ppar : Bool) :
    (s.takeTransfer op lanes ppar).offBeat = s.offBeat := by
  rcases s.takeTransfer_cases op lanes ppar with ⟨-, e⟩ | ⟨-, -, e⟩ | ⟨-, -, e⟩ <;> rw [e] <;> rfl

theorem State.strobePeriodEnd_offBeat (prdy : Bool) (lanes : Word) (ppar : Bool) :
    (s.strobePeriodEnd prdy lanes ppar).offBeat = s.offBeat := by
  unfold State.strobePeriodEnd
  split
  · split
    · split
      · exact s.takeTransfer_offBeat _ lanes ppar
      · rfl
    · rfl
  · rfl

theorem State.readyLimitExpiry_offBeat : s.readyLimitExpiry.offBeat = s.offBeat := by
  unfold State.readyLimitExpiry
  split
  · split <;> rfl
  · rfl

theorem State.recoveryEnd_offBeat : s.recoveryEnd.offBeat = s.offBeat := by
  unfold State.recoveryEnd
  split
  · split <;> rfl
  · rfl

theorem State.completeFill_offBeat (op : Operation) : (s.completeFill op).offBeat = s.offBeat := by
  unfold State.completeFill
  split
  · rfl
  · rw [State.fillEnd_eq]
    rfl

theorem State.completion_offBeat : s.completion.offBeat = s.offBeat := by
  unfold State.completion
  split
  · split
    · exact State.completeFill_offBeat _ _
    · rfl
  · rfl

theorem State.recoveryOver_offBeat : s.recoveryOver.offBeat = s.offBeat :=
  s.recoveryEnd.completion_offBeat.trans s.recoveryEnd_offBeat

theorem State.endShortRecovery_offBeat : s.endShortRecovery.offBeat = s.offBeat := by
  unfold State.endShortRecovery
  split
  · split
    · exact s.recoveryOver_offBeat
    · rfl
  · rfl

theorem State.endPhase_offBeat (op : Operation) : (s.endPhase op).offBeat = s.offBeat := by
  unfold State.endPhase
  split
  · exact s.setupEnd_offBeat false
  · exact State.strobePeriodEnd_offBeat _ _ _ _
  · exact s.readyLimitExpiry_offBeat
  · exact s.recoveryOver_offBeat

theorem State.countPhase_offBeat : s.countPhase.offBeat = s.offBeat := by
  unfold State.countPhase
  split
  · dsimp only
    split
    · exact State.endPhase_offBeat _ _
    · rfl
  · rfl

theorem State.clockBeat_offBeat : s.clockBeat.offBeat = s.offBeat :=
  s.countPhase.endShortRecovery_offBeat.trans s.countPhase_offBeat

/-! ## The divider and the timers -/

/-- The due expiries and the divider on one bus clock are the statements' `clockedTimers` (R149, R152). -/
theorem State.divide_expireDue : s.expireDue.divide = clockedTimers s := by
  unfold State.divide clockedTimers
  rw [State.expireDue_timebase, State.tick_eq_lowered, State.expireDue_eq_expired]
  by_cases room : s.timebase.count + 1 < s.timebase.divisor.toNat
  · rw [if_pos room, if_neg (Nat.not_le.2 room)]
  · rw [if_neg room, if_pos (Nat.not_lt.1 room)]

theorem clockedTimers_sequencer : (clockedTimers s).sequencer = s.sequencer := by
  unfold clockedTimers
  split <;> rfl

/-- Off the beat, the divider and the timers depend on nothing of the beat. -/
theorem clockedTimers_offBeat : (clockedTimers s).offBeat = (clockedTimers s.offBeat).offBeat := by
  simp only [clockedTimers, apply_ite State.offBeat]
  rfl

/-- Off the beat, the divider and the timers change the sources and the timebase: the count rises, or the tick restarts
it with TICK_DIV (R149, R150). -/
theorem clockedTimers_frame :
    (clockedTimers s).offBeat =
      { s.offBeat with
        sources := (clockedTimers s).sources
        timebase :=
          if s.timebase.count + 1 < s.timebase.divisor.toNat then
            { s.timebase with count := s.timebase.count + 1 }
          else { count := 0, divisor := s.cfg.tickDiv } } := by
  unfold clockedTimers
  split <;> rfl

end Frame

/-! ## Recoveries -/

section Recovery

variable {s : State} {op : Operation}

/-- The phase in progress has lasted its latched time (R51, R52, R56). -/
theorem Operation.phaseOver_iff : op.phaseOver = true ↔ latchedTime op ≤ op.phaseClocks := by
  unfold Operation.phaseOver latchedTime
  cases op.phase <;> exact decide_eq_true_iff

theorem latchedTime_recovery (phase : op.phase = .recovery) : latchedTime op = op.profile.recovery := by
  rw [latchedTime, phase]

/-- A beat in SETUP completes nothing (R62). -/
theorem State.completion_beginBeat (s : State) (op : Operation) : (s.beginBeat op).completion = s.beginBeat op := by
  refine State.completion_notDue (forall_busy rfl (.inl ?_))
  exact Phase.noConfusion

/-- The end of a RECOVERY with a further beat behind it: that beat begins (R56). -/
theorem State.recoveryOver_next (busy : s.sequencer = some op) (phase : op.phase = .recovery)
    (goesOn : op.endingFault = none ∧ op.index < op.plan.length) :
    s.recoveryOver = s.recoveryEnd ∧ s.recoveryOver = s.beginBeat op.following := by
  have next : s.recoveryEnd = s.beginBeat op.following := State.recoveryEnd_next busy phase goesOn.1 goesOn.2
  rw [State.recoveryOver, next, State.completion_beginBeat]
  exact ⟨rfl, rfl⟩

/-- The end of the RECOVERY of a last or faulted beat is the completion (R56, R62). -/
theorem State.recoveryOver_last (busy : s.sequencer = some op) (phase : op.phase = .recovery)
    (last : ¬ (op.endingFault = none ∧ op.index < op.plan.length)) :
    s.recoveryOver = s.completion ∧
      s.recoveryOver = { (s.completeRecord op).completeFill op with sequencer := none } := by
  have last : op.endingFault ≠ none ∨ op.plan.length ≤ op.index := by
    simpa only [not_and_or, Nat.not_lt] using last
  rw [State.recoveryOver, State.recoveryEnd_notDue (forall_busy busy (.inr last))]
  exact ⟨rfl, State.completion_due busy phase last⟩

/-- The end of a RECOVERY by the clock is the statements' event for it (R56). -/
theorem exec_recoveryEvent (busy : s.sequencer = some op) (phase : op.phase = .recovery) :
    exec (recoveryEvent op) s = .next s.recoveryOver := by
  unfold recoveryEvent
  split
  · next goesOn => exact congrArg Host.Outcome.next (State.recoveryOver_next busy phase goesOn).1.symm
  · next last => exact congrArg Host.Outcome.next (State.recoveryOver_last busy phase last).1.symm

/-- After a RECOVERY the next beat is in SETUP with no clock counted, or the sequencer is IDLE (R51, R62). -/
theorem State.recoveryOver_sequencer (busy : s.sequencer = some op) (phase : op.phase = .recovery) :
    ∀ next, s.recoveryOver.sequencer = some next → next.phase = .setup ∧ next.phaseClocks = 0 := by
  by_cases goesOn : op.endingFault = none ∧ op.index < op.plan.length
  · rw [(State.recoveryOver_next busy phase goesOn).2]
    exact forall_busy rfl ⟨rfl, rfl⟩
  · rw [(State.recoveryOver_last busy phase goesOn).2]
    exact forall_busy_of_idle rfl

theorem State.endShortRecovery_due (busy : s.sequencer = some op)
    (due : op.phase = .recovery ∧ op.profile.recovery ≤ op.phaseClocks) : s.endShortRecovery = s.recoveryOver := by
  obtain ⟨phase, lasted⟩ := due
  simp only [State.endShortRecovery, busy]
  exact if_pos ⟨phase, Operation.phaseOver_iff.2 ((latchedTime_recovery phase).trans_le lasted)⟩

theorem State.endShortRecovery_notDue
    (notDue : ∀ op, s.sequencer = some op → ¬ (op.phase = .recovery ∧ op.profile.recovery ≤ op.phaseClocks)) :
    s.endShortRecovery = s := by
  unfold State.endShortRecovery
  split
  · next op busy =>
    exact if_neg fun ⟨phase, lasted⟩ =>
      notDue op busy ⟨phase, (latchedTime_recovery phase).symm.trans_le (Operation.phaseOver_iff.1 lasted)⟩
  · rfl

/-- Where no clock of the phase is counted yet, the RECOVERY that ends at once is the one of 0 clocks (R56). -/
theorem State.endShortRecovery_fresh (fresh : ∀ op, s.sequencer = some op → op.phaseClocks = 0) :
    RecoveryOfZeroEnded s s.endShortRecovery := by
  unfold RecoveryOfZeroEnded
  split
  · next op busy =>
    have fresh := fresh op busy
    split
    · next zero =>
      rw [State.endShortRecovery_due busy ⟨zero.1, zero.2.trans_le (Nat.zero_le _)⟩]
      exact exec_recoveryEvent busy zero.1
    · next notZero =>
      refine State.endShortRecovery_notDue (forall_busy busy fun ⟨phase, lasted⟩ => notZero ⟨phase, ?_⟩)
      omega
  · next idle => exact State.endShortRecovery_notDue (forall_busy_of_idle idle)

end Recovery

/-! ## Ends of phases -/

section Phases

variable {s : State} {op : Operation}

/-- The operation with `clocks` bus clocks counted for its phase. -/
def Operation.counted (op : Operation) (clocks : Nat) : Operation := { op with phaseClocks := clocks }

/-- The state with `clocks` bus clocks counted for the phase of `op`. -/
def State.counted (s : State) (op : Operation) (clocks : Nat) : State :=
  { s with sequencer := some (op.counted clocks) }

theorem State.counted_sequencer (s : State) (op : Operation) (clocks : Nat) :
    (s.counted op clocks).sequencer = some (op.counted clocks) := rfl

theorem State.countPhase_idle (idle : s.sequencer = none) : s.countPhase = s := by
  simp only [State.countPhase, idle]

theorem State.countPhase_running (busy : s.sequencer = some op) (running : op.phaseClocks + 1 < latchedTime op) :
    s.countPhase = s.counted op (op.phaseClocks + 1) := by
  simp only [State.countPhase, busy]
  exact if_neg (Operation.phaseOver_iff.not.2 (Nat.not_le.2 running))

theorem State.countPhase_over (busy : s.sequencer = some op) (lasted : latchedTime op ≤ op.phaseClocks + 1) :
    s.countPhase =
      (s.counted op (op.phaseClocks + 1)).endPhase (op.counted (op.phaseClocks + 1)) := by
  simp only [State.countPhase, busy]
  exact if_pos (Operation.phaseOver_iff.2 lasted)

/-! An event that ends the phase drops the clocks counted for it. -/

theorem State.setupEnd_counted (busy : s.sequencer = some op) (phase : op.phase = .setup) (clocks : Nat) :
    (s.counted op clocks).setupEnd false = s.setupEnd false := by
  rw [State.setupEnd_strobe busy phase]
  have counted := State.setupEnd_strobe (s.counted_sequencer op clocks) phase
  exact counted

theorem State.strobePeriodEnd_counted (busy : s.sequencer = some op) (phase : op.phase = .strobe) (clocks : Nat)
    (lanes : Word) (ppar : Bool) :
    (s.counted op clocks).strobePeriodEnd false lanes ppar = s.strobePeriodEnd false lanes ppar := by
  by_cases limit : op.profile.readyLimit = 0
  · rw [State.strobePeriodEnd_taken busy phase (.inl limit)]
    exact State.strobePeriodEnd_taken (s.counted_sequencer op clocks) phase (.inl limit) lanes ppar
  · have waits : ¬ (op.profile.readyLimit = 0 ∨ false = true) := by simp [limit]
    rw [State.strobePeriodEnd_waits busy phase waits]
    exact State.strobePeriodEnd_waits (s.counted_sequencer op clocks) phase waits lanes ppar

theorem State.readyLimitExpiry_counted (busy : s.sequencer = some op) (phase : op.phase = .readyWait) (clocks : Nat) :
    (s.counted op clocks).readyLimitExpiry = s.readyLimitExpiry := by
  rw [State.readyLimitExpiry_due busy phase]
  have counted := State.readyLimitExpiry_due (s.counted_sequencer op clocks) phase
  exact counted

/-- The fill end is the read-ahead unit's: the sequencer has no part in it (R72). -/
theorem State.fillEnd_sequencer (s : State) (sequencer : Option Operation) (slot : SlotId) (base : Word)
    (bytes : Option (Vector Byte 16)) :
    State.fillEnd { s with sequencer := sequencer } slot base bytes =
      { s.fillEnd slot base bytes with sequencer := sequencer } := by
  have same : State.fillingEntry { s with sequencer := sequencer } slot base = s.fillingEntry slot base := rfl
  unfold State.fillEnd
  rw [same]
  split
  · rfl
  · next e _ =>
    split
    · rfl
    · by_cases lost : (s.entry e).isPoisoned = true ∨ s.lineQuery slot base = true ∨ s.cfg.lineLife = 0#16
      · rw [if_pos lost]
        exact if_pos lost
      · rw [if_neg lost]
        exact if_neg lost

theorem State.completeFill_sequencer (s : State) (sequencer : Option Operation) (op : Operation) :
    State.completeFill { s with sequencer := sequencer } op = { s.completeFill op with sequencer := sequencer } := by
  unfold State.completeFill
  split
  · rfl
  · exact s.fillEnd_sequencer sequencer _ _ _

theorem State.recoveryOver_counted (busy : s.sequencer = some op) (phase : op.phase = .recovery) (clocks : Nat) :
    (s.counted op clocks).recoveryOver = s.recoveryOver := by
  by_cases goesOn : op.endingFault = none ∧ op.index < op.plan.length
  · rw [(State.recoveryOver_next busy phase goesOn).2]
    exact (State.recoveryOver_next (s.counted_sequencer op clocks) phase goesOn).2
  · rw [(State.recoveryOver_last busy phase goesOn).2]
    refine (State.recoveryOver_last (s.counted_sequencer op clocks) phase goesOn).2.trans ?_
    exact congrArg (fun u : State => { u with sequencer := none })
      (State.completeFill_sequencer (s.completeRecord op) (some (op.counted clocks)) op)

theorem State.takeTransfer_fresh (s : State) (op : Operation) (lanes : Word) (ppar : Bool) :
    ∀ next, (s.takeTransfer op lanes ppar).sequencer = some next → next.phaseClocks = 0 := by
  rcases s.takeTransfer_cases op lanes ppar with ⟨-, e⟩ | ⟨-, -, e⟩ | ⟨-, -, e⟩ <;> rw [e] <;> exact forall_busy rfl rfl

theorem State.strobePeriodEnd_fresh (busy : s.sequencer = some op) (phase : op.phase = .strobe) (lanes : Word)
    (ppar : Bool) :
    ∀ next, (s.strobePeriodEnd false lanes ppar).sequencer = some next → next.phaseClocks = 0 := by
  by_cases given : op.profile.readyLimit = 0 ∨ false = true
  · rw [State.strobePeriodEnd_taken busy phase given]
    exact s.takeTransfer_fresh op lanes ppar
  · rw [State.strobePeriodEnd_waits busy phase given]
    exact forall_busy rfl rfl

/-- `v` is what the end of the phase of `op` by the clock leaves of `s`, the target driving neither PRDY nor PDCL: the
effect of the phase's event, with no clock counted for the phase that it begins (R51, R52, R56, assumption 4). -/
structure State.EndsPhase (s : State) (op : Operation) (v : State) : Prop where
  fresh : ∀ next, v.sequencer = some next → next.phaseClocks = 0
  setup : op.phase = .setup → exec (.setupEnd false) s = .next v
  strobe : op.phase = .strobe →
    ∃ lanes ppar, exec (.strobePeriodEnd false lanes ppar) { s with samples := s.samples + 1 } = .next v
  readyWait : op.phase = .readyWait → exec .readyLimitExpiry s = .next v
  recovery : op.phase = .recovery → exec (recoveryEvent op) s = .next v

/-- The end of a phase by the clock is its event, taken as if no clock had been counted (R51, R52, R56). -/
theorem State.endPhase_endsPhase (busy : s.sequencer = some op) (clocks : Nat) :
    s.EndsPhase op ((s.counted op clocks).endPhase (op.counted clocks)) := by
  have inPhase : (op.counted clocks).phase = op.phase := rfl
  rw [State.endPhase, inPhase]
  cases phase : op.phase with
  | setup =>
    dsimp only
    rw [State.setupEnd_counted busy phase]
    refine ⟨?_, fun _ => rfl, fun other => ?_, fun other => ?_, fun other => ?_⟩
    · rw [State.setupEnd_strobe busy phase]
      exact forall_busy rfl rfl
    all_goals cases phase.symm.trans other
  | strobe =>
    have ended := State.strobePeriodEnd_counted (s := { s with samples := s.samples + 1 }) busy phase clocks
      (Config.targetLanes s.samples) (Config.targetParity s.samples)
    have fresh := State.strobePeriodEnd_fresh (s := { s with samples := s.samples + 1 }) busy phase
      (Config.targetLanes s.samples) (Config.targetParity s.samples)
    rw [← ended] at fresh
    refine ⟨fresh, fun other => ?_, fun _ => ⟨_, _, congrArg Host.Outcome.next ended.symm⟩, fun other => ?_,
      fun other => ?_⟩
    all_goals cases phase.symm.trans other
  | readyWait =>
    dsimp only
    rw [State.readyLimitExpiry_counted busy phase]
    refine ⟨?_, fun other => ?_, fun other => ?_, fun _ => rfl, fun other => ?_⟩
    · rw [State.readyLimitExpiry_due busy phase]
      exact forall_busy rfl rfl
    all_goals cases phase.symm.trans other
  | recovery =>
    dsimp only
    rw [State.recoveryOver_counted busy phase]
    refine ⟨fun next after => (State.recoveryOver_sequencer busy phase next after).2, fun other => ?_,
      fun other => ?_, fun other => ?_, fun _ => exec_recoveryEvent busy phase⟩
    all_goals cases phase.symm.trans other

end Phases

/-! ## The bus clock -/

section Clock

variable {s : State} {op : Operation}

/-- On an empty queue a step is one bus clock (assumption 3). -/
theorem step_empty (empty : s.pending = []) : step s = .next s.clock := by
  simp only [step, empty]

/-- A bus clock: the RECOVERY of 0 clocks that a command began, the divider with the timers, the beat (R56, R149,
R152). -/
theorem State.clock_eq (off : s.grst = false) : s.clock = (clockedTimers s.endShortRecovery).clockBeat := by
  rw [← State.divide_expireDue]
  exact if_neg (Bool.eq_false_iff.1 off)

theorem State.clock_settled (off : s.grst = false)
    (settled : ∀ op, s.sequencer = some op → ¬ (op.phase = .recovery ∧ op.profile.recovery ≤ op.phaseClocks)) :
    s.clock = (clockedTimers s).clockBeat := by
  rw [State.clock_eq off, State.endShortRecovery_notDue settled]

/-- A RECOVERY of 0 clocks that a command began ends ahead of the clock (R56). -/
theorem State.clock_recovered (off : s.grst = false) (busy : s.sequencer = some op)
    (due : op.phase = .recovery ∧ op.profile.recovery ≤ op.phaseClocks) : s.clock = s.recoveryOver.clock := by
  have off' : s.recoveryOver.grst = false := (congrArg State.grst s.recoveryOver_offBeat).trans off
  rw [State.clock_eq off, State.endShortRecovery_due busy due, State.clock_settled off']
  intro next after recovered
  cases (State.recoveryOver_sequencer busy due.1 next after).1.symm.trans recovered.1

/-- Off the beat, a bus clock is the divider and the timers. -/
theorem State.clock_offBeat (off : s.grst = false) : s.clock.offBeat = (clockedTimers s).offBeat := by
  rw [State.clock_eq off, State.clockBeat_offBeat, clockedTimers_offBeat, State.endShortRecovery_offBeat,
    ← clockedTimers_offBeat]

theorem State.clock_idle (off : s.grst = false) (idle : s.sequencer = none) : s.clock = clockedTimers s := by
  have idle' : (clockedTimers s).sequencer = none := (clockedTimers_sequencer s).trans idle
  rw [State.clock_settled off (forall_busy_of_idle idle), State.clockBeat, State.countPhase_idle idle',
    State.endShortRecovery_notDue (forall_busy_of_idle idle')]

/-- A phase that has not lasted its latched time counts the clock (R51, R52, R56). -/
theorem State.clock_running (off : s.grst = false) (busy : s.sequencer = some op)
    (settled : ¬ (op.phase = .recovery ∧ op.profile.recovery ≤ op.phaseClocks))
    (running : op.phaseClocks + 1 < latchedTime op) :
    s.clock = (clockedTimers s).counted op (op.phaseClocks + 1) := by
  have busy' : (clockedTimers s).sequencer = some op := (clockedTimers_sequencer s).trans busy
  rw [State.clock_settled off (forall_busy busy settled), State.clockBeat, State.countPhase_running busy' running,
    State.endShortRecovery_notDue (forall_busy (State.counted_sequencer _ _ _) ?_)]
  rintro ⟨phase, lasted⟩
  have latched : latchedTime op = op.profile.recovery := latchedTime_recovery phase
  have lasted : op.profile.recovery ≤ op.phaseClocks + 1 := lasted
  omega

/-- A phase that has lasted its latched time ends, and a RECOVERY of 0 clocks that this begins ends at once (R51, R52,
R56). -/
theorem State.clock_over (off : s.grst = false) (busy : s.sequencer = some op)
    (settled : ¬ (op.phase = .recovery ∧ op.profile.recovery ≤ op.phaseClocks))
    (lasted : latchedTime op ≤ op.phaseClocks + 1) :
    ∃ v, (clockedTimers s).EndsPhase op v ∧ RecoveryOfZeroEnded v s.clock := by
  have busy' : (clockedTimers s).sequencer = some op := (clockedTimers_sequencer s).trans busy
  have ends := State.endPhase_endsPhase busy' (op.phaseClocks + 1)
  rw [State.clock_settled off (forall_busy busy settled), State.clockBeat, State.countPhase_over busy' lasted]
  exact ⟨_, ends, State.endShortRecovery_fresh ends.fresh⟩

end Clock

end Sys2Proof.Machine

namespace Sys2Proof.Proofs

open Sys2Proof.Machine Sys2Proof.Statements

/-- Settles O2: the frame of a bus clock, then the beat by whether it is at rest, in a RECOVERY that is over, or in a
phase that goes on or ends with this clock. -/
theorem idleStepIsOneBusClock : Obligations.IdleStepIsOneBusClock := by
  intro s empty
  refine ⟨fun on => ?_, fun off => ⟨⟨s.clock, step_empty empty, ?_⟩, fun idle => ?_, fun op busy =>
    ⟨fun phase due => ?_, fun settled => ⟨fun running => ?_, fun lasted => ?_⟩⟩⟩⟩
  · rw [step_empty empty]
    exact congrArg Host.Outcome.next (if_pos on)
  · have frame := (State.clock_offBeat off).trans (clockedTimers_frame s)
    exact ⟨(congrArg State.timebase frame :), (congrArg State.ports frame :), (congrArg State.cfg frame :),
      (congrArg State.arbiter frame :), (congrArg State.grst frame :), (congrArg State.patn frame :),
      (congrArg State.pending frame :).trans empty, (congrArg State.sources frame :)⟩
  · rw [step_empty empty, State.clock_idle off idle]
  · have empty' : s.recoveryOver.pending = [] := (congrArg State.pending s.recoveryOver_offBeat).trans empty
    refine ⟨s.recoveryOver, exec_recoveryEvent busy phase, ?_⟩
    rw [step_empty empty, step_empty empty', State.clock_recovered off busy ⟨phase, due⟩]
  · rw [step_empty empty, State.clock_running off busy settled running]
    rfl
  · obtain ⟨v, ends, zero⟩ := State.clock_over off busy settled lasted
    exact ⟨v, s.clock, step_empty empty, zero, ends.setup, ends.strobe, ends.readyWait, ends.recovery⟩

end Sys2Proof.Proofs
end

section
/-!
PROOFS. The request word as the four fields of R174: each word is the one that a slot request, a control access or a raw
request writes. The rows of the table, the decode of the port and the request words then agree by cases of the word.
-/

namespace Sys2Proof

/-! ## A request word by its fields -/

theorem requestWidth_eq_word {word : BitVec 24} : requestWidth word = .word ↔ word.getLsbD 20 = true := by
  unfold requestWidth
  split <;> simp_all only [reduceCtorEq]

/-- A request word is its reserved bits, kind, width and address (R174). -/
theorem requestWord_ext {w w' : BitVec 24} (reserved : w.extractLsb' 22 2 = w'.extractLsb' 22 2)
    (kind : requestIsWrite w = requestIsWrite w') (width : requestWidth w = requestWidth w')
    (address : w.extractLsb' 0 20 = w'.extractLsb' 0 20) : w = w' := by
  refine BitVec.eq_of_getLsbD_eq fun i hi => ?_
  obtain low | rfl | rfl | high : i < 20 ∨ i = 20 ∨ i = 21 ∨ 22 ≤ i := by omega
  · have bit := congrArg (BitVec.getLsbD · i) address
    simpa only [BitVec.getLsbD_extractLsb', low, decide_true, Bool.true_and, Nat.zero_add] using bit
  · rw [Bool.eq_iff_iff, ← requestWidth_eq_word, width, requestWidth_eq_word]
  · exact kind
  · have bit := congrArg (BitVec.getLsbD · (i - 22)) reserved
    have two : i - 22 < 2 := by omega
    simpa only [BitVec.getLsbD_extractLsb', two, decide_true, Bool.true_and, Nat.add_sub_cancel' high] using bit

theorem reservedBitsSet_eq_false {word : BitVec 24} : reservedBitsSet word = false ↔ word.extractLsb' 22 2 = 0#2 := by
  rw [reservedBitsSet, Bool.or_eq_false_iff]
  constructor
  · rintro ⟨bit22, bit23⟩
    refine BitVec.eq_of_getLsbD_eq fun i hi => ?_
    obtain rfl | rfl : i = 0 ∨ i = 1 := by omega
    · simpa [BitVec.getLsbD_extractLsb'] using bit22
    · simpa [BitVec.getLsbD_extractLsb'] using bit23
  · intro clear
    have bit (i : Nat) := congrArg (BitVec.getLsbD · i) clear
    exact ⟨by simpa [BitVec.getLsbD_extractLsb'] using bit 0, by simpa [BitVec.getLsbD_extractLsb'] using bit 1⟩

theorem unmappedAddress_iff {word : BitVec 24} :
    unmappedAddress word = true ↔ 0x80100 ≤ (word.extractLsb' 0 20).toNat :=
  decide_eq_true_iff.trans BitVec.le_def

/-- A word with reserved bits set, or with an unmapped address, lies in no region that a block serves (R168, R174). -/
theorem requestRegion_unmapped {word : BitVec 24} (fails : (reservedBitsSet word || unmappedAddress word) = true) :
    requestRegion word = .unmapped := if_pos fails

section Words

variable (write : BitVec 1) (width : Width) (slot : SlotId) (offset : Word) (control : BitVec 8)

theorem slotRequestWord_address_toNat :
    ((slotRequestWord write width slot offset).extractLsb' 0 20).toNat = 0x10000 * slot.val + offset.toNat := by
  have small : slot.val % 8 = slot.val := Nat.mod_eq_of_lt slot.isLt
  rw [slotRequestWord_address, Machine.toNat_append_add, Machine.toNat_append_add]
  simp only [BitVec.toNat_ofNat, small]
  omega

theorem controlRequestWord_address_toNat :
    ((controlRequestWord write width control).extractLsb' 0 20).toNat = 0x80000 + control.toNat := by
  rw [controlRequestWord_address, Machine.toNat_append_add]
  simp only [BitVec.toNat_ofNat]
  omega

end Words

section Fields

variable {word : BitVec 24} {slot : SlotId} {offset : Word} {control : BitVec 8}

/-- A word with a slot address is the word of a slot request (R169). -/
theorem eq_slotRequestWord (reserved : word.extractLsb' 22 2 = 0#2)
    (address : (word.extractLsb' 0 20).toNat = 0x10000 * slot.val + offset.toNat) :
    word = slotRequestWord (BitVec.ofBool (requestIsWrite word)) (requestWidth word) slot offset := by
  refine requestWord_ext (reserved.trans (reservedBitsSet_eq_false.1 ?_).symm) ?_ ?_ (BitVec.eq_of_toNat_eq ?_)
  · exact slotRequestWord_reserved _ _ _ _
  · simp
  · simp
  · rw [address, slotRequestWord_address_toNat]

/-- A word with an address of the control window is the word of a control access (R170). -/
theorem eq_controlRequestWord (reserved : word.extractLsb' 22 2 = 0#2)
    (address : (word.extractLsb' 0 20).toNat = 0x80000 + control.toNat) :
    word = controlRequestWord (BitVec.ofBool (requestIsWrite word)) (requestWidth word) control := by
  refine requestWord_ext (reserved.trans (reservedBitsSet_eq_false.1 ?_).symm) ?_ ?_ (BitVec.eq_of_toNat_eq ?_)
  · exact controlRequestWord_reserved _ _ _
  · simp
  · simp
  · rw [address, controlRequestWord_address_toNat]

theorem requestRegion_slotAddress (reserved : word.extractLsb' 22 2 = 0#2)
    (address : (word.extractLsb' 0 20).toNat = 0x10000 * slot.val + offset.toNat) :
    requestRegion word = .slotSpace slot offset := by
  rw [eq_slotRequestWord reserved address, requestRegion_slotRequestWord]

theorem requestRegion_controlAddress (reserved : word.extractLsb' 22 2 = 0#2)
    (address : (word.extractLsb' 0 20).toNat = 0x80000 + control.toNat) : requestRegion word = .control control := by
  rw [eq_controlRequestWord reserved address, requestRegion_controlRequestWord]

end Fields

/-- What a host can put on its link: a word that fails decode, the word of a slot request, or that of a control access
(R168). -/
theorem requestWord_cases (word : BitVec 24) :
    (reservedBitsSet word || unmappedAddress word) = true ∨
      (∃ write width slot offset, word = slotRequestWord write width slot offset) ∨
      ∃ write width control, word = controlRequestWord write width control := by
  refine or_iff_not_imp_left.2 fun mapped => ?_
  rw [Bool.not_eq_true, Bool.or_eq_false_iff, reservedBitsSet_eq_false, ← Bool.not_eq_true,
    unmappedAddress_iff] at mapped
  obtain ⟨reserved, bound⟩ := mapped
  generalize number : (word.extractLsb' 0 20).toNat = address at bound
  by_cases slotSpace : address < 0x80000
  · refine .inl ⟨_, _, ⟨address / 0x10000, by omega⟩, BitVec.ofNat 16 address, eq_slotRequestWord reserved ?_⟩
    rw [number, BitVec.toNat_ofNat]
    exact (Nat.div_add_mod address 0x10000).symm
  · refine .inr ⟨_, _, BitVec.ofNat 8 (address - 0x80000), eq_controlRequestWord reserved ?_⟩
    rw [number, BitVec.toNat_ofNat]
    omega

/-! ## The command that a word spells -/

section Commands

variable (h : HostId) (width : Width) (slot : SlotId) (offset value : Word) (control : BitVec 8)

theorem commandOf_unmapped {word : BitVec 24} (fails : (reservedBitsSet word || unmappedAddress word) = true)
    (data : Word) : commandOf h word data = .unmappedRequest h word data := by
  simp only [commandOf, requestRegion_unmapped fails]

theorem commandOf_slotRead (data : Word) :
    commandOf h (slotRequestWord 0#1 width slot offset) data = .slotRead h slot offset width := by
  simp [commandOf]

theorem commandOf_slotWrite :
    commandOf h (slotRequestWord 1#1 width slot offset) value = .slotWrite h slot offset width value := by
  simp [commandOf]

theorem commandOf_controlRead (data : Word) :
    commandOf h (controlRequestWord 0#1 width control) data = controlReadCommand h width control := by
  simp [commandOf]

theorem commandOf_controlWrite :
    commandOf h (controlRequestWord 1#1 width control) value = controlWriteCommand h width control value := by
  simp [commandOf]

variable {width control}

/-- A write with a row of its own is that row's command, and its request word is the word presented (R176). -/
theorem controlWriteCommand_own (own : hasOwnWriteRow control = true) :
    (controlWriteCommand h .word control value).wellFormed = true ∧
      (controlWriteCommand h .word control value).request = some (h, controlRequestWord 1#1 .word control, value) := by
  simp only [hasOwnWriteRow, List.mem_cons, List.not_mem_nil, or_false, decide_eq_true_eq] at own
  rcases own with rfl | rfl | rfl | rfl | rfl | rfl | rfl <;> exact ⟨rfl, rfl⟩

/-- Every other control write is a REGISTER_WRITE (R130). -/
theorem controlWriteCommand_shared (shared : ¬ (width = .word ∧ hasOwnWriteRow control = true)) :
    controlWriteCommand h width control value = .registerWrite h width control value := by
  unfold controlWriteCommand controlWrite
  cases found : regAt control with
  | none => rfl
  | some reg =>
    by_cases passes : width = .word ∧ reg.writable = true
    · have other : hasOwnWriteRow reg.offset = false := by
        simpa [passes.1, offset_of_regAt found] using shared
      cases reg with
      | cfgIndex | cfgExpect => simp [passes.1, ControlReg.writable]
      | statusFirst | statusSecond | head | claim | cfgGen => cases passes.2
      | _ => cases other
    · simp only [passes, if_false]

/-- A read of CLAIM_n is a CLAIM, and its request word is the word presented (R176). -/
theorem controlReadCommand_claim (claim : isClaimOffset control = true) :
    (controlReadCommand h .word control).wellFormed = true ∧
      (controlReadCommand h .word control).request = some (h, controlRequestWord 0#1 .word control, 0#16) := by
  simp only [isClaimOffset, List.mem_cons, List.not_mem_nil, or_false, decide_eq_true_eq] at claim
  rcases claim with rfl | rfl | rfl | rfl | rfl | rfl | rfl | rfl <;> exact ⟨rfl, rfl⟩

theorem isClaimOffset_claim (n : SourceId) : isClaimOffset (ControlReg.claim n).offset = true := by
  revert n
  decide

/-- Every other control read is a PORT_STATUS (R171, assumption 2). -/
theorem controlReadCommand_shared (shared : ¬ (width = .word ∧ isClaimOffset control = true)) :
    controlReadCommand h width control = .portStatus h width control := by
  unfold controlReadCommand controlRead
  cases found : regAt control with
  | none => rfl
  | some reg =>
    by_cases passes : width = .word ∧ reg.readable = true
    · rw [← offset_of_regAt found] at shared ⊢
      cases reg with
      | claim n => exact absurd ⟨passes.1, isClaimOffset_claim n⟩ shared
      | _ => simp [passes]
    · simp only [passes, if_false]

theorem wellFormed_portStatus :
    (Instr.portStatus h width control).wellFormed = true ↔ ¬ (width = .word ∧ isClaimOffset control = true) := by
  simp only [Instr.wellFormed, Bool.not_eq_true', ← Bool.not_eq_true, Bool.and_eq_true, decide_eq_true_eq]

theorem wellFormed_registerWrite :
    (Instr.registerWrite h width control value).wellFormed = true ↔
      ¬ (width = .word ∧ hasOwnWriteRow control = true) := by
  simp only [Instr.wellFormed, Bool.not_eq_true', ← Bool.not_eq_true, Bool.and_eq_true, decide_eq_true_eq]

theorem controlWriteCommand_spells :
    (controlWriteCommand h width control value).wellFormed = true ∧
      (controlWriteCommand h width control value).request = some (h, controlRequestWord 1#1 width control, value) := by
  by_cases own : width = .word ∧ hasOwnWriteRow control = true
  · obtain ⟨rfl, own⟩ := own
    exact controlWriteCommand_own h value own
  · rw [controlWriteCommand_shared h value own]
    exact ⟨(wellFormed_registerWrite h value).2 own, rfl⟩

theorem controlReadCommand_spells :
    (controlReadCommand h width control).wellFormed = true ∧
      (controlReadCommand h width control).request = some (h, controlRequestWord 0#1 width control, 0#16) := by
  by_cases claim : width = .word ∧ isClaimOffset control = true
  · obtain ⟨rfl, claim⟩ := claim
    exact controlReadCommand_claim h claim
  · rw [controlReadCommand_shared h claim]
    exact ⟨(wellFormed_portStatus h).2 claim, rfl⟩

theorem commandOf_claim (n : SourceId) (data : Word) :
    commandOf h (controlRequestWord 0#1 .word (ControlReg.claim n).offset) data = .claim h n := by
  rw [commandOf_controlRead, controlReadCommand, controlRead_offset rfl]

end Commands

/-! ## The decode of the port -/

/-- The data word of a read is not looked at (R174). -/
theorem decodeRequest_of_read {word : BitVec 24} (read : word.getLsbD 21 = false) (data data' : Word) :
    decodeRequest word data = decodeRequest word data' := by
  simp only [decodeRequest, requestIsWrite, read, Bool.false_eq_true, if_false]

theorem decodeRequest_of_controlWrite {word : BitVec 24} {control : BitVec 8}
    (region : requestRegion word = .control control) (write : word.getLsbD 21 = true) (data : Word) :
    decodeRequest word data = controlWrite (requestWidth word) control data := by
  simp only [decodeRequest, region, requestIsWrite, write, if_true]

theorem decodeRequest_of_controlRead {word : BitVec 24} {control : BitVec 8}
    (region : requestRegion word = .control control) (read : word.getLsbD 21 = false) (data : Word) :
    decodeRequest word data = controlRead (requestWidth word) control := by
  simp only [decodeRequest, region, requestIsWrite, read, Bool.false_eq_true, if_false]

theorem decodeRequest_unmapped {word : BitVec 24} (fails : (reservedBitsSet word || unmappedAddress word) = true)
    (data : Word) : decodeRequest word data = .badAddress := by
  simp only [decodeRequest, requestRegion_unmapped fails]

section Tests

variable {width : Width} {control : BitVec 8}

/-- A control write that fails one of the three tests of R170: register, WORD, write access. -/
theorem controlWrite_fails (value : Word)
    (fails : width = .byte ∨ ∀ reg : ControlReg, reg.offset = control → reg.writable = false) :
    controlWrite width control value = .badAddress := by
  unfold controlWrite
  split
  · next reg found =>
    refine if_neg ?_
    rintro ⟨rfl, writable⟩
    simpa [writable] using fails.resolve_left nofun reg (offset_of_regAt found)
  · rfl

/-- A control read that fails one of the three tests of R170: register, WORD, read access. -/
theorem controlRead_fails
    (fails : width = .byte ∨ ∀ reg : ControlReg, reg.offset = control → reg.readable = false) :
    controlRead width control = .badAddress := by
  unfold controlRead
  split
  · next reg found =>
    refine if_neg ?_
    rintro ⟨rfl, readable⟩
    simpa [readable] using fails.resolve_left nofun reg (offset_of_regAt found)
  · rfl

end Tests

end Sys2Proof

namespace Sys2Proof.Machine

open Sys2Proof.Statements

/-- An UP port answers a request that fails decode with FAULT(BAD_ADDRESS), and nothing else changes (R168). -/
theorem State.request_badAddress {s : State} {h : HostId} {word : BitVec 24} {data : Word}
    (up : (s.port h).up = true) (fails : decodeRequest word data = .badAddress) :
    s.request h word data = answering s h (.fault .badAddress) :=
  State.take_answering up (congrArg (s.access h) fails)

end Sys2Proof.Machine

namespace Sys2Proof.Proofs

open Sys2Proof.Machine Sys2Proof.Statements

/-- Settles O3, row by row: the word that the command writes has one region, and there the row is found again. -/
theorem commandOfItsRequestWord : Obligations.CommandOfItsRequestWord := by
  intro c formed h word data spelled
  cases c with
  | slotRead g slot offset width => cases spelled; exact commandOf_slotRead h width slot offset _
  | slotWrite g slot offset width data => cases spelled; exact commandOf_slotWrite h width slot offset data
  | unmappedRequest g word data => cases spelled; exact commandOf_unmapped h formed data
  | portStatus g width offset =>
    cases spelled
    rw [commandOf_controlRead, controlReadCommand_shared h ((wellFormed_portStatus h).1 formed)]
  | noticePop g value => cases spelled; exact commandOf_controlWrite h .word data _
  | threshold g value => cases spelled; exact commandOf_controlWrite h .word data _
  | cancelReads g value => cases spelled; exact commandOf_controlWrite h .word data _
  | claim g n => cases spelled; exact commandOf_claim h n _
  | release g value => cases spelled; exact commandOf_controlWrite h .word data _
  | rearm g value => cases spelled; exact commandOf_controlWrite h .word data _
  | cfgDataWrite g value => cases spelled; exact commandOf_controlWrite h .word data _
  | cfgCdataWrite g value => cases spelled; exact commandOf_controlWrite h .word data _
  | registerWrite g width offset value =>
    cases spelled
    rw [commandOf_controlWrite, controlWriteCommand_shared h data ((wellFormed_registerWrite h data).1 formed)]
  | _ => cases spelled

/-- Settles O4, by the three kinds of request word and the kind bit. -/
theorem everyRequestWordIsACommand : Obligations.EveryRequestWordIsACommand := by
  intro h word data
  obtain fails | ⟨write, width, slot, offset, rfl⟩ | ⟨write, width, control, rfl⟩ := requestWord_cases word
  · rw [commandOf_unmapped h fails]
    exact ⟨fails, data, rfl, fun _ => rfl⟩
  · obtain rfl | rfl := write.eq_zero_or_eq_one
    · rw [commandOf_slotRead]
      have read : requestIsWrite (slotRequestWord 0#1 width slot offset) = false := slotRequestWord_isWrite ..
      exact ⟨rfl, 0#16, rfl, fun write => nomatch read.symm.trans write⟩
    · rw [commandOf_slotWrite]
      exact ⟨rfl, data, rfl, fun _ => rfl⟩
  · obtain rfl | rfl := write.eq_zero_or_eq_one
    · rw [commandOf_controlRead]
      obtain ⟨formed, spelled⟩ := controlReadCommand_spells h (width := width) (control := control)
      have read : requestIsWrite (controlRequestWord 0#1 width control) = false := controlRequestWord_isWrite ..
      exact ⟨formed, 0#16, spelled, fun write => nomatch read.symm.trans write⟩
    · rw [commandOf_controlWrite]
      obtain ⟨formed, spelled⟩ := controlWriteCommand_spells h data (width := width) (control := control)
      exact ⟨formed, data, spelled, fun _ => rfl⟩

/-- Settles O5: the command is run as its request word is, and that word is the one presented, with its data word where
it is a write. -/
theorem requestWordRunsAsItsCommand : Obligations.RequestWordRunsAsItsCommand := by
  intro h word data s
  obtain ⟨-, kept, spelled, carried⟩ := everyRequestWordIsACommand h word data
  rw [exec_of_request spelled]
  cases kind : word.getLsbD 21 with
  | true => rw [carried kind]
  | false => rw [State.request, State.request, decodeRequest_of_read kind kept data]

/-- Settles O6: the command is run as its request word is, and a DOWN port does not take it. -/
theorem downPortTakesNoRequest : Obligations.DownPortTakesNoRequest := by
  intro c h word data s spelled down
  rw [exec_of_request spelled]
  exact congrArg Host.Outcome.next (State.take_down down)

/-- Settles O7: a word with a mapped address is the word of a slot request or of a control access, whose decode is
known. -/
theorem requestDecode : Obligations.RequestDecode := by
  refine ⟨fun h word data s up fails => ?_, fun word data => ⟨fun fails => ?_, fun reserved =>
    ⟨fun slot offset address => ?_, fun reg address wide => ⟨fun write writable => ?_, fun read readable => ?_⟩,
      fun offset address fails => ?_⟩⟩⟩
  · have answered (c : Instr) (spelled : c.request = some (h, word, data)) :=
      (exec_of_request (s := s) spelled).trans (congrArg Host.Outcome.next (State.request_badAddress up fails))
    exact ⟨answered (.unmappedRequest h word data) rfl, answered⟩
  · refine decodeRequest_unmapped ?_ data
    rw [Bool.or_eq_true, unmappedAddress_iff, ← Bool.not_eq_false, reservedBitsSet_eq_false]
    exact fails
  · simp only [decodeRequest, requestRegion_slotAddress reserved address]
    rfl
  · rw [decodeRequest_of_controlWrite (requestRegion_controlAddress reserved address) write,
      show requestWidth word = .word from wide, controlWrite_offset data writable]
  · rw [decodeRequest_of_controlRead (requestRegion_controlAddress reserved address) read,
      show requestWidth word = .word from wide, controlRead_offset readable]
  · have region := requestRegion_controlAddress reserved address
    cases kind : word.getLsbD 21 with
    | true =>
      rw [decodeRequest_of_controlWrite region kind]
      exact controlWrite_fails data (fails.imp_right fun closed reg here => by
        simpa only [kind, if_true] using closed reg here)
    | false =>
      rw [decodeRequest_of_controlRead region kind]
      exact controlRead_fails (fails.imp_right fun closed reg here => by
        simpa only [kind, Bool.false_eq_true, if_false] using closed reg here)

end Sys2Proof.Proofs
end

section
/-!
PROOFS. The reach of a request: what lies beyond the port that presents it, and that of the requests only an accepted
write of the set changes any of that.
-/

namespace Sys2Proof.Machine

open Sys2Proof.Statements

/-! ## What lies beyond a port -/

/-- The state without what a request of host `h` acts on: its port, its records, the lines and the sources. -/
def State.beyond (s : State) (h : HostId) : State :=
  { s with
    pool := s.pool.filter fun r => decide (r.host ≠ h)
    lines := ReadAhead.reset
    sources := Vector.replicate 8 Source.reset
    ports := s.ports.set h Port.reset }

section Beyond

variable {s t : State} {g h : HostId}

/-- Another port lies beyond `h`'s. -/
theorem State.port_beyond (ne : g ≠ h) : (s.beyond h).port g = s.port g :=
  s.port_modPort_ne (fun _ => Port.reset) ne

/-- The lane of another host lies beyond `h`'s port. -/
theorem State.lane_beyond (ne : g ≠ h) : (s.beyond h).lane g = s.lane g := by
  refine (List.filter_filter ..).trans (List.filter_congr fun r _ => ?_)
  by_cases own : r.host = g <;> simp [own, ne]

theorem State.beyond_modPort (f : Port → Port) : (s.modPort h f).beyond h = s.beyond h := by
  simp [State.beyond, State.modPort]

theorem State.beyond_modSource (n : SourceId) (f : Source → Source) : (s.modSource n f).beyond h = s.beyond h := rfl

theorem State.beyond_join (job : Job) : (s.join h job).beyond h = s.beyond h := by
  simp [State.beyond, State.join]

/-- A pool in which records of host `h` alone are changed or freed. -/
abbrev OwnThinned (h : HostId) : List Record → List Record → Prop :=
  Thinned (fun r' r => r' = r ∨ r'.host = h ∧ r.host = h) fun r => r.host = h

/-- The records of the other hosts stay as they are. -/
theorem OwnThinned.others {pool' pool : List Record} (own : OwnThinned h pool' pool) :
    (pool'.filter fun r => decide (r.host ≠ h)) = pool.filter fun r => decide (r.host ≠ h) := by
  induction own with
  | nil => rfl
  | keep change _ ih =>
    obtain rfl | ⟨own', own⟩ := change
    · simp only [List.filter_cons, ih]
    · simpa [own', own] using ih
  | drop own _ ih => simpa [own] using ih

theorem State.beyond_thinned {pool : List Record} (own : OwnThinned h pool s.pool) :
    State.beyond { s with pool := pool } h = s.beyond h := by
  simp only [State.beyond, own.others]

end Beyond

/-! ## Requests that leave it -/

section Frame

variable (s : State) (h : HostId)

theorem State.slotWrite_beyond (slot : SlotId) (offset : Word) (width : Width) (data : Word) :
    (s.slotWrite h slot offset width data).1.beyond h = s.beyond h := by
  rcases s.slotWrite_cases h slot offset width data with ⟨_, e⟩ | ⟨_, -, e⟩ | ⟨-, -, e⟩ <;> rw [e]
  exact State.beyond_join _

theorem State.slotReadUnmatched_beyond (slot : SlotId) (offset : Word) (width : Width) :
    (s.slotReadUnmatched h slot offset width).1.beyond h = s.beyond h := by
  rcases s.slotReadUnmatched_cases h slot offset width with ⟨_, e⟩ | ⟨_, e⟩ | ⟨_, -, e⟩ | ⟨-, -, e⟩ <;> rw [e]
  · rfl
  · exact State.beyond_join _

theorem State.slotRead_beyond (slot : SlotId) (offset : Word) (width : Width) :
    (s.slotRead h slot offset width).1.beyond h = s.beyond h := by
  rcases s.slotRead_cases h slot offset width with ⟨_, _, _, -, -, e⟩ | ⟨_, -, -, e⟩ | ⟨-, e⟩ <;> rw [e]
  · exact State.beyond_thinned (.eraseP (fun _ => .inl rfl) (fun _ found => (Record.isMatch_iff.1 found).2.1) s.pool)
  · exact s.slotReadUnmatched_beyond h slot offset width

theorem Record.afterCancel_other {h : HostId} {r : Record} (other : r.host ≠ h) : r.afterCancel h = some r :=
  if_neg fun own => other own.1

/-- A cancel acts on the records of its host alone (R17). -/
theorem State.cancelReads_beyond : (s.cancelReads h).beyond h = s.beyond h := by
  refine State.beyond_thinned (.filterMap (fun r _ r' kept => ?_) fun r _ freed => ?_)
  · by_cases own : r.host = h
    · exact .inr ⟨((r.afterCancel_quiet h).1 r' kept).key.1.trans own, own⟩
    · rw [Record.afterCancel_other own] at kept
      exact .inl (Option.some.inj kept).symm
  · by_contra other
    rw [Record.afterCancel_other other] at freed
    cases freed

theorem State.claim_beyond (n : SourceId) : (s.claim h n).1.beyond h = s.beyond h := by
  unfold State.claim
  dsimp only
  split <;> rfl

theorem State.release_beyond (value : Word) : (s.release h value).1.beyond h = s.beyond h := by
  unfold State.release
  split
  · rfl
  · split <;> rfl

theorem State.rearm_beyond (value : Word) : (s.rearm h value).1.beyond h = s.beyond h := by
  unfold State.rearm
  split
  · rfl
  · split <;> rfl

theorem State.pop_beyond : (s.pop h).1.beyond h = s.beyond h := by
  unfold State.pop
  split
  · rfl
  · exact State.beyond_modPort _

theorem State.writeThreshold_beyond (value : Word) : (s.writeThreshold h value).1.beyond h = s.beyond h := by
  unfold State.writeThreshold
  split
  · rfl
  · exact State.beyond_modPort _

theorem State.readReg_beyond (reg : ControlReg) : (s.readReg h reg).1.beyond h = s.beyond h := by
  cases reg with
  | statusFirst => exact State.beyond_modPort _
  | claim n => exact s.claim_beyond h n
  | _ => rfl

/-- A write of the set leaves what lies beyond the port, unless it is accepted (R134). -/
theorem State.SetWrite.beyond {v : Word} {decided : State × Answer} (write : s.SetWrite h v decided) :
    decided.1.beyond h = s.beyond h ∨ ∃ item, decided.1 = s.acceptWrite h item v := by
  cases write with
  | refused => exact .inl rfl
  | accepted item => exact .inr ⟨item, rfl⟩

theorem State.writeReg_beyond (value : Word) (reg : ControlReg) :
    (s.writeReg h value reg).1.beyond h = s.beyond h ∨
      ∃ item, (s.writeReg h value reg).1 = s.acceptWrite h item value := by
  cases reg with
  | noticePop => exact .inl (s.pop_beyond h)
  | threshold => exact .inl (s.writeThreshold_beyond h value)
  | cancelReads => exact .inl (s.cancelReads_beyond h)
  | release => exact .inl (s.release_beyond h value)
  | rearm => exact .inl (s.rearm_beyond h value)
  | cfgIndex | cfgExpect => exact .inl (State.beyond_modPort _)
  | cfgData => exact (s.cfgDataWrite_setWrite h value).beyond
  | cfgCdata => exact (s.cfgCdataWrite_setWrite h value).beyond
  | _ => exact .inl rfl

/-- Of the decoded requests only an accepted write of the set reaches beyond its port (R139, R167). -/
theorem State.access_beyond (a : Access) :
    (s.access h a).1.beyond h = s.beyond h ∨ ∃ item v, (s.access h a).1 = s.acceptWrite h item v := by
  cases a with
  | slotRead slot offset width => exact .inl (s.slotRead_beyond h slot offset width)
  | slotWrite slot offset width data => exact .inl (s.slotWrite_beyond h slot offset width data)
  | readReg reg => exact .inl (s.readReg_beyond h reg)
  | writeReg reg v => exact (s.writeReg_beyond h v reg).imp_right fun ⟨item, accepted⟩ => ⟨item, v, accepted⟩
  | badAddress => exact .inl rfl

end Frame

/-! ## The reach of a request -/

/-- `t` is what a request of host `h` may leave of `s` (R17, R139, R160). -/
structure State.OwnReach (s : State) (h : HostId) (t : State) : Prop where
  ports : ∀ g, g ≠ h → t.port g = { s.port g with changed := (t.port g).changed }
  flags : ∀ g, g ≠ h → (t.port g).changed = (s.port g).changed ∨ (t.port g).changed = some h
  lanes : t.cfg = s.cfg → ∀ g, g ≠ h → t.lane g = s.lane g
  arbiter : t.arbiter = s.arbiter
  sequencer : t.sequencer = s.sequencer
  bus : t.bus = s.bus
  timebase : t.timebase = s.timebase
  grst : t.grst = s.grst
  patn : t.patn = s.patn
  samples : t.samples = s.samples
  pending : t.pending = s.pending

section Reach

variable {s t : State} {h : HostId}

theorem State.OwnReach.of_beyond (same : t.beyond h = s.beyond h) : s.OwnReach h t := by
  have port (g : HostId) (ne : g ≠ h) : t.port g = s.port g := by
    rw [← State.port_beyond ne, same, State.port_beyond ne]
  have lane (g : HostId) (ne : g ≠ h) : t.lane g = s.lane g := by
    rw [← State.lane_beyond ne, same, State.lane_beyond ne]
  exact
    { ports := fun g ne => by rw [port g ne]
      flags := fun g ne => .inl (by rw [port g ne])
      lanes := fun _ => lane
      arbiter := (congrArg State.arbiter same :)
      sequencer := (congrArg State.sequencer same :)
      bus := (congrArg State.bus same :)
      timebase := (congrArg State.timebase same :)
      grst := (congrArg State.grst same :)
      patn := (congrArg State.patn same :)
      samples := (congrArg State.samples same :)
      pending := (congrArg State.pending same :) }

/-- An accepted write raises the generation, so that it never leaves the set (R136, R139). -/
theorem State.OwnReach.of_acceptWrite (s : State) (h : HostId) (item : Item) (v : Word) :
    s.OwnReach h (s.acceptWrite h item v) := by
  have frame := s.acceptWrite_frame h item v
  exact
    { ports := fun g _ => by rw [s.acceptWrite_changed h item v g]
      flags := fun g _ => by
        rw [s.acceptWrite_changed h item v g]
        exact (em _).symm.imp (fun quiet => if_neg quiet) fun owed => if_pos owed
      lanes := fun same => absurd (congrArg ConfigSet.generation same) (s.acceptWrite_generation_ne h item v)
      arbiter := (congrArg State.arbiter frame :)
      sequencer := (congrArg State.sequencer frame :)
      bus := (congrArg State.bus frame :)
      timebase := (congrArg State.timebase frame :)
      grst := (congrArg State.grst frame :)
      patn := (congrArg State.patn frame :)
      samples := (congrArg State.samples frame :)
      pending := (congrArg State.pending frame :) }

/-- The port's own items, its answer among them, lie within the reach (R160). -/
theorem State.OwnReach.modPort (reach : s.OwnReach h t) (f : Port → Port) : s.OwnReach h (t.modPort h f) :=
  { reach with
    ports := fun g ne => by
      rw [State.port_modPort_ne _ _ ne]
      exact reach.ports g ne
    flags := fun g ne => by
      rw [State.port_modPort_ne _ _ ne]
      exact reach.flags g ne }

theorem State.request_ownReach (s : State) (h : HostId) (word : BitVec 24) (data : Word) :
    s.OwnReach h (s.request h word data) := by
  unfold State.request
  cases up : (s.port h).up with
  | false =>
    rw [State.take_down up]
    exact .of_beyond (State.beyond_modPort _)
  | true =>
    rw [State.take_up up]
    refine .modPort ?_ _
    obtain same | ⟨item, v, accepted⟩ := s.access_beyond h (decodeRequest word data)
    · exact .of_beyond same
    · rw [accepted]
      exact .of_acceptWrite s h item v

end Reach

end Sys2Proof.Machine

namespace Sys2Proof.Proofs

open Sys2Proof.Machine Sys2Proof.Statements

/-- Settles O8: the request leaves what lies beyond its port, or is an accepted write of the set; then its answer goes
on the link. -/
theorem requestReachesItsOwnPort : Obligations.RequestReachesItsOwnPort := by
  intro c h word data s t spelled run
  rw [exec_of_request spelled] at run
  cases run
  have reach := s.request_ownReach h word data
  refine ⟨fun g ne => ⟨reach.ports g ne, reach.flags g ne, fun same => reach.lanes same g ne⟩, ?_, reach.arbiter,
    reach.sequencer, reach.bus, reach.timebase, reach.grst, reach.patn, reach.samples, reach.pending⟩
  rw [State.request, State.answer_take]
  cases (s.port h).up <;> rfl

end Sys2Proof.Proofs
end

section
/-!
PROOFS. The state right after reset, block by block.
-/

namespace Sys2Proof.Machine

open Sys2Proof.Statements

theorem State.reset_port (h : HostId) : State.reset.port h = Port.reset := by
  simp [State.reset, State.port]

theorem State.reset_source (n : SourceId) : State.reset.source n = Source.reset := by
  simp [State.reset, State.source]

theorem State.reset_entry (e : EntryId) : State.reset.entry e = .invalid := by
  simp [State.reset, State.entry, ReadAhead.reset]

/-- An IDLE source with its line inactive agrees with every route (R89, R109). -/
theorem Source.reset_sound (route : Route) (up : HostId → Bool) : Source.reset.Sound route up :=
  (Source.sound_idle rfl).2 nofun

theorem State.reset_pinsSound : State.reset.PinsSound := ⟨rfl, rfl, rfl, rfl, rfl⟩

theorem State.reset_noStaleLine : State.reset.NoStaleLine := by
  intro e
  rw [State.reset_entry]
  trivial

theorem State.reset_servedSlots : State.reset.ServedSlots := by
  refine ⟨fun e => ?_, nofun⟩
  rw [State.reset_entry]
  trivial

theorem State.reset_sourcesSound : State.reset.SourcesSound := by
  refine ⟨fun n => ?_, fun n h down => ?_, fun _ n => ?_, nofun⟩
  · rw [State.reset_source]
    exact Source.reset_sound _ _
  · rw [State.reset_port] at down
    cases down
  · rw [State.reset_source]
    simp [State.reset, Source.reset]

theorem State.reset_roundsWithin : State.reset.RoundsWithin := by
  refine ⟨fun n => ?_, fun h m mem => ?_⟩
  · rw [State.reset_source]
    exact ⟨nofun, fun h entry owed => by simp [Source.reset] at owed⟩
  · rw [State.reset_port] at mem
    cases mem

theorem State.reset_portLevels : State.reset.PortLevels := by
  intro h
  rw [State.reset_port]
  rfl

theorem State.reset_queuesSound : State.reset.QueuesSound := by
  intro h
  rw [State.reset_port]
  exact ⟨Nat.zero_le _, .nil⟩

theorem State.reset_noticeLines : State.reset.NoticeLines := by
  intro h
  rw [State.reset_port]
  exact ⟨nofun, fun ⟨_, n, mem, _⟩ => nomatch mem⟩

theorem State.reset_timebaseSound : State.reset.TimebaseSound := by
  refine ⟨?_, ?_, ?_⟩ <;> decide

end Sys2Proof.Machine

namespace Sys2Proof.Proofs

open Sys2Proof.Machine Sys2Proof.Statements

/-- Settles O52, invariant by invariant: the pool is empty, the sequencer IDLE, no line is in use, every source is IDLE,
and every queue is empty. -/
theorem resetIsSound : Obligations.ResetIsSound :=
  ⟨Nat.zero_le _, .nil, nofun, rfl, nofun, State.reset_pinsSound, State.linesAgree_iff.2 .reset,
    State.reset_noStaleLine, State.reset_servedSlots, State.reset_sourcesSound, State.reset_roundsWithin,
    State.reset_portLevels, State.reset_queuesSound, State.reset_noticeLines, ConfigSet.reset_legal,
    State.reset_timebaseSound, Nat.zero_le _, fun _ => rfl⟩

end Sys2Proof.Proofs
end

section
/-!
PROOFS. Two formats of chapter 10: the number that each head register carries for a notice, and the claim result word
for each state of the source.
-/

namespace Sys2Proof.Machine

open Sys2Proof.Statements

/-! ## Notice head words (R179) -/

/-- HEAD0 holds the code of the kind, the priority and the sequence, each in its field. -/
theorem Notice.head0_toNat (n : Notice) : n.head0.toNat = headNumber n 0 := by
  have fields : n.head0.toNat = n.body.code.toNat + 16 * n.priority.toNat + 256 * n.sequence.toNat := by
    simp only [Notice.head0, toNat_append_add, BitVec.toNat_ofNat]
    omega
  obtain ⟨sequence, priority, body⟩ := n
  cases body <;> exact fields

/-- HEAD1 holds the number of the source, slot or writer with what its kind adds; a round within its bound fits its
three bits. -/
theorem Notice.head1_toNat {n : Notice} (within : n.body.round ≤ 6) : n.body.head1.toNat = headNumber n 1 := by
  obtain ⟨sequence, priority, body⟩ := n
  cases body with
  | attention source round | repeated source round =>
    have round_le : round ≤ 6 := within
    simp only [NoticeBody.head1, headNumber, toNat_append_add, BitVec.toNat_ofNat]
    omega
  | sourceStuck source =>
    simp only [NoticeBody.head1, headNumber, toNat_append_add, BitVec.toNat_ofNat]
    omega
  | forcedRelease source cause =>
    cases cause <;>
    · simp only [NoticeBody.head1, headNumber, Cause.code, toNat_append_add, BitVec.toNat_ofNat]
      omega
  | writeFailed slot _ width | readOrphaned slot _ width =>
    cases width <;>
    · simp only [NoticeBody.head1, headNumber, Width.bit, toNat_append_add, BitVec.toNat_ofNat]
      omega
  | configChanged _ writer =>
    simp only [NoticeBody.head1, headNumber, toNat_append_add, BitVec.toNat_ofNat]
    omega

/-- HEAD2 holds an offset or a generation whole, and 0 for the kinds of a source. -/
theorem Notice.head2_toNat (n : Notice) : n.body.head2.toNat = headNumber n 2 := by
  obtain ⟨sequence, priority, body⟩ := n
  cases body <;> rfl

/-- HEAD3 holds fault code, PARTIAL and epoch of a failed write, and 0 for every other kind. -/
theorem Notice.head3_toNat (n : Notice) : n.body.head3.toNat = headNumber n 3 := by
  obtain ⟨sequence, priority, body⟩ := n
  cases body with
  | writeFailed slot offset width fault partialWrite epoch =>
    have fields : (NoticeBody.writeFailed slot offset width fault partialWrite epoch).head3.toNat =
        (fault.faultCode.code.extractLsb' 0 4).toNat + 16 * partialWrite.toNat + 256 * epoch.toNat := by
      simp only [NoticeBody.head3, toNat_append_add, BitVec.toNat_ofNat, BitVec.toNat_ofBool]
      omega
    cases fault <;> exact fields
  | _ => rfl

/-- The four head words of a queue are those of its first notice. -/
theorem headWord_toNat {n : Notice} {rest : List Notice} (within : n.body.round ≤ 6) (i : Fin 4) :
    (headWord (n :: rest) i).toNat = headNumber n i := by
  match i with
  | 0 => exact n.head0_toNat
  | 1 => exact Notice.head1_toNat within
  | 2 => exact n.head2_toNat
  | 3 => exact n.head3_toNat

/-! ## Claim results (R94, R177) -/

section ClaimResults

variable {s : State} {src : Source} {route : Route} {h : HostId} {n : SourceId} {result : ClaimResult}

theorem Source.claimResult_idle (idle : src.state = .idle) (subscribed : route.subscribes h = true) :
    src.claimResult route h = .notRaised := by
  simp only [Source.claimResult, subscribed, idle, not_true_eq_false, if_false]

theorem Source.claimResult_stuck (stuck : src.state = .stuck) (subscribed : route.subscribes h = true) :
    src.claimResult route h = .stuck := by
  simp only [Source.claimResult, subscribed, stuck, not_true_eq_false, if_false]

/-- A claim of a source that the host already holds (R94). -/
theorem Source.claimResult_alreadyYours {timer : Option Nat} (claimed : src.state = .claimed h timer)
    (subscribed : route.subscribes h = true) : src.claimResult route h = .alreadyYours := by
  simp only [Source.claimResult, subscribed, claimed, not_true_eq_false, if_true, if_false]

/-- The grant of a claim: the source is CLAIMED, with its hold timer and without an owed entry (R94, R102). -/
theorem State.claim_granted (granted : (s.source n).claimResult (s.cfg.route n) h = .granted) :
    s.claim h n =
      (s.modSource n fun src =>
        { src with
          state := .claimed h (if (s.cfg.route n).holdTimeout = 0 then none else some (s.cfg.route n).holdTimeout)
          owed := Vector.replicate 4 none }, .data 0x0001#16) := by
  simp only [State.claim, granted, if_true]
  rfl

/-- A claim at an UP port that is not granted only puts its result word on the link. -/
theorem exec_claim_refused (up : (s.port h).up = true)
    (decided : (s.source n).claimResult (s.cfg.route n) h = result) (refused : result ≠ .granted) :
    exec (.claim h n) s = .next (answering s h (.data result.word)) :=
  congrArg Host.Outcome.next (State.take_answering up (State.claim_refused decided refused))

/-- The result codes 0 and 7 are reserved (R177). -/
theorem ClaimResult.word_ne_reserved (result : ClaimResult) :
    result.word ≠ 0x0000#16 ∧ result.word ≠ 0x0007#16 := by
  cases result with
  | heldBy g => revert g; decide
  | _ => decide

end ClaimResults

end Sys2Proof.Machine

namespace Sys2Proof.Proofs

open Sys2Proof.Machine Sys2Proof.Statements

/-- Settles O11: the read answers the head word of the queue, whose number is read field by field. -/
theorem headRegistersCarryTheHeadNotice : Obligations.HeadRegistersCarryTheHeadNotice := by
  intro h s up ⟨_, queued⟩ i
  refine ⟨headWord (s.port h).queue i, exec_portStatus_reg (reg := .head i) up rfl, fun empty => ?_,
    fun n rest queue => ?_⟩
  · rw [empty]
    rfl
  · have within : n.body.round ≤ 6 := queued h n (queue ▸ List.mem_cons_self)
    rw [queue]
    exact headWord_toNat within i

/-- Settles O39, by the subscription of the host and the state of the source. -/
theorem claimResultWords : Obligations.ClaimResultWords := by
  intro h n s up
  refine ⟨fun other => ?_, fun subscribed => ⟨fun idle => ?_, fun round timer raised => ?_, fun timer yours => ?_,
    fun g timer ne held => ?_, fun stuck => ?_⟩, ?_⟩
  · exact exec_claim_refused up (Source.claimResult_notSubscribed (Bool.eq_false_iff.2 other)) nofun
  · exact exec_claim_refused up (Source.claimResult_idle idle subscribed) nofun
  · have granted := Source.claimResult_granted.2 ⟨subscribed, round, timer, raised⟩
    exact congrArg Host.Outcome.next (State.take_answering up (State.claim_granted granted))
  · exact exec_claim_refused up (Source.claimResult_alreadyYours yours subscribed) nofun
  · rw [← ClaimResult.word_heldBy]
    exact exec_claim_refused up (Source.claimResult_heldBy held ne subscribed) nofun
  · exact exec_claim_refused up (Source.claimResult_stuck stuck subscribed) nofun
  · have word_ne := ((s.source n).claimResult (s.cfg.route n) h).word_ne_reserved
    exact ⟨_, _, rfl, (State.answer_take s h _).trans (if_pos up), word_ne⟩

end Sys2Proof.Proofs
end

section
/-!
PROOFS. A step with a command in front of the queue.
-/

namespace Sys2Proof.Machine

/-- With a command in front a step is that command on the rest of the queue, the other side of `step_empty`. -/
theorem step_front {s : State} {c : Instr} {rest : List Instr} (front : s.pending = c :: rest) :
    step s = exec c { s with pending := rest } := by
  simp only [step, front]

end Sys2Proof.Machine

namespace Sys2Proof.Proofs

open Sys2Proof.Machine

/-- Settles O1: taking the front command off again leaves `s` itself. -/
theorem stepTakesFrontCommand : Obligations.StepTakesFrontCommand :=
  fun _ _ => step_front rfl

end Sys2Proof.Proofs
end
